-- ==== Sys2Proof/Word.lean ====
section
/-! DEFINITION. The byte of the link, the display and the dictionary ports, and its plainest arithmetic. -/

namespace Sys2Proof

/-- Everything that passes between the host and the part travels in bytes (R173). -/
abbrev Byte := BitVec 8

/-- The low eight bits of a number. -/
abbrev byteOf (n : Nat) : Byte := BitVec.ofNat 8 n

/-- The 8-bit sum of a list of bytes, as the check byte of R173 uses it. -/
def byteSum : List Byte → Byte
  | [] => 0
  | b :: bs => b + byteSum bs

/-- Two bytes as one number, high byte first (R185). -/
def wide (hi lo : Byte) : Nat := 256 * hi.toNat + lo.toNat

/-- A number as two bytes, high byte first (R185). -/
def wideBytes (n : Nat) : List Byte := [byteOf (n / 256), byteOf n]

/-- A signed value in two's complement (R185). -/
def signedByte (i : Int) : Byte := BitVec.ofInt 8 i

/-- A flag as a number, 1 when set. -/
def bit (b : Bool) : Nat := if b then 1 else 0

end Sys2Proof
end

