-- ==== Sys2Proof/Config.lean ====
section
/-! DEFINITION. What the part fixes once: the capacities, limits and lengths of the chapters, the
defaults of the Retained Area, and the one value the manual leaves open. -/

namespace Sys2Proof.Config

/-- Key Queue places (R172). -/
def keyPlaces : Nat := 64
/-- Strike Queue places (R71). -/
def strikePlaces : Nat := 32
/-- Cells of the Line Record (R6). -/
def cellPlaces : Nat := 160
/-- The right end of the platen in carrier steps (R5). -/
def rightEnd : Nat := 1560
/-- The last carrier position (R59, R93). -/
def lastPosition : Nat := 1559
/-- Full scale of the heat account (R114, R117). -/
def heatFull : Nat := 600
/-- Saturation of the encoder mark count (R93). -/
def markLimit : Nat := 1600
/-- Tab stops kept (R44). -/
def tabPlaces : Nat := 16
/-- Lookup Queue places (R147). -/
def lookupPlaces : Nat := 8
/-- User Word List places (R157). -/
def wordPlaces : Nat := 48
/-- Longest word with letters (R143). -/
def longestWord : Nat := 24
/-- Microsteps of one wheel revolution (R96). -/
def wheelSteps : Nat := 1536
/-- Width of the margin bell's zone (R45). -/
def bellZone : Nat := 48
/-- Blink period in ms (R162). -/
def blinkPeriod : Nat := 250
/-- Life of a transient message in ms (R164). -/
def messageLife : Nat := 3000
/-- Steps of the move off the home switch (R94). -/
def offSwitchSteps : Nat := 36
/-- Tape steps of one LIFT advance (R122). -/
def tapeSteps : Nat := 6
/-- Samples at which sensing ends without agreement (R119). -/
def sampleLimit : Nat := 50

/-- The test pattern of page 0 after a cold start (R182). -/
def testPattern : List Byte :=
  [0x00, 0xFF, 0x01, 0xFE, 0x02, 0xFD, 0x04, 0xFB, 0x08, 0xF7, 0x10, 0xEF, 0x20, 0xDF, 0x40, 0xBF]

/-- The platen counter once a motion would carry it past −2147483648 to +2147483647: the manual gives
the range (R106) and no value for a count beyond it. A FREE VALUE of that range, as its 32 bits: no body,
nothing constrains it (log entry 30). -/
opaque platenBeyond : Int → BitVec 32

end Sys2Proof.Config
end

