-- ==== Sys2Proof/Syntax.lean ====
section
/-! DEFINITION. The commands of the part: one constructor of `Instr` for each row of
spec/opcode_table.json, with the operands the outside supplies. -/

namespace Sys2Proof

/-- The six condition inputs (R108). -/
inductive Input where
  | cover | paper | ribbonEnd | tapeEnd | carrierHome | hammerHome
  deriving DecidableEq, Repr

/-- One byte as the receiver gets it: its value, and whether its stop bit was low (R173). -/
structure RxByte where
  value : Byte
  stopLow : Bool
  deriving DecidableEq, Repr

/-- One sample of the four cartridge contacts, true for closed (R119). -/
structure Contacts where
  ribbonA : Bool
  ribbonB : Bool
  tapeA : Bool
  tapeB : Bool
  deriving DecidableEq, Repr

/-- How far the motions in progress had been driven when an opening cover stopped them, in carrier
steps, platen steps and wheel microsteps (R84, R95, R96, R106). -/
structure Driven where
  carrier : Nat
  platen : Nat
  wheel : Nat
  deriving DecidableEq, Repr

/-- The commands, in the order of the opcode table. A request carries its number and its argument
bytes (R178, R185). -/
inductive Instr where
  | powerUp
  | mainPowerFail
  | resetPinAssert
  | resetPinRelease
  | keyFrame (code flags : Byte)
  | textFrame (bytes : List Byte)
  /-- The bytes received after the lead byte, the last of which shows the error (R173). -/
  | frameError (rx : List RxByte)
  /-- The bytes received after the lead byte before the 5 ms gap (R173). -/
  | frameGapTimeout (rx : List RxByte)
  | resyncIdleExpiry
  | transmitComplete
  | setMargins (num : Byte) (args : List Byte)
  | setTab (num : Byte) (args : List Byte)
  | clearTab (num : Byte) (args : List Byte)
  | clearTabs (num : Byte) (args : List Byte)
  | setPitch (num : Byte) (args : List Byte)
  | setSpacing (num : Byte) (args : List Byte)
  | setImpression (num : Byte) (args : List Byte)
  | setTypingMode (num : Byte) (args : List Byte)
  | setSpellMode (num : Byte) (args : List Byte)
  | setToneVolume (num : Byte) (args : List Byte)
  | addWordRequest (num : Byte) (args : List Byte)
  | removeWord (num : Byte) (args : List Byte)
  | enableNotices (num : Byte) (args : List Byte)
  | disableNotices (num : Byte) (args : List Byte)
  | readPage (num : Byte) (args : List Byte)
  | writeTestPattern (num : Byte) (args : List Byte)
  | clearErrorLog (num : Byte) (args : List Byte)
  | readLine (num : Byte) (args : List Byte)
  | pauseRequest (num : Byte) (args : List Byte)
  | continueRequest (num : Byte) (args : List Byte)
  | resume (num : Byte) (args : List Byte)
  | restart (num : Byte) (args : List Byte)
  | soundTone (num : Byte) (args : List Byte)
  | enterAdjust (num : Byte) (args : List Byte)
  | adjustStep (num : Byte) (args : List Byte)
  | testStrike (num : Byte) (args : List Byte)
  | leaveAdjust (num : Byte) (args : List Byte)
  | unknownRequestCode (num code : Byte) (args : List Byte)
  | graphicCode
  | space
  | tab
  | decimalTab
  | returnKey
  | index
  | reverseIndex
  | halfUp
  | halfDown
  | backspace
  | forward
  | relocate
  | correct
  | wordErase
  | lineErase
  | acceptWord
  | addWord
  | center
  | flushRight
  | marginRelease
  | setLeft
  | setRight
  | tabSet
  | tabClear
  | bold
  | underline
  | printHold
  | unknownKeyCode
  | releaseRunStep
  | eraseStep
  /-- The encoder marks passed during the move (R95). -/
  | carrierMoveComplete (marks : Nat)
  | wheelRotationComplete
  | platenMotionComplete
  | fire
  | pulseEnd
  | settleEnd
  | advanceEnd
  | decayEvent
  | homingOffSwitchEnd
  | carrierHomeFound
  | carrierHomeSearchLimit
  /-- The notch's width in ticks of 0.1 ms (R97). -/
  | notchTrailingEdge (width : Nat)
  | notchClassified
  | searchRevolutionLimit
  /-- The input and its new raw level: open, out, at end, at home for true (R108). -/
  | rawLevelChange (input : Input) (level : Bool)
  /-- The input, and how far stopped motions had come if the change is the cover opening. -/
  | qualificationTimerExpiry (input : Input) (driven : Driven)
  | sensingSample (contacts : Contacts)
  /-- The bytes clocked in: 16 of a header, 32 of a bucket (R151). -/
  | dictReadComplete (data : List Byte)
  | blinkToggle
  | messageExpiry
  | displaySendComplete
  | toneComplete
  | resyncByteReceived
  | encoderMarkPassed
  | backupSupplyLost
  deriving DecidableEq, Repr

end Sys2Proof
end

