-- ==== Sys2Proof/Machine/State.lean ====
section
/-! DEFINITION. The state of the part, block by block as spec/00_scope.md's block diagram lists them,
and its value right after a cold start. Every field cites the rule that names it. -/

namespace Sys2Proof.Machine

/-! ## Outcomes -/

/-- The model never stops with a fault: the mechanism's FAULT (R89) is a state of the Print Sequencer
and the part has no exception entry. -/
inductive Fault where
  deriving DecidableEq, Repr

/-- Why a command has no meaning. -/
inductive Refusal where
  /-- Raised by exec's arm of a command that has no meaning yet, never by a meaning. Safe: the model
  stops where the hardware goes on. -/
  | notModelled (mnemonic : String)
  deriving DecidableEq, Repr

/-! ## Enumerations (R1, R3, R49, R69, R74, R185) -/

/-- Where a key entry came from (R172). -/
inductive Source where | key | text
  deriving DecidableEq, Repr
/-- The receiver's states (R173). -/
inductive Receiver where | hunt | frame | resync
  deriving DecidableEq, Repr
/-- The frame errors (R173). -/
inductive FrameErr where | check | length | kind | gap | stop
  deriving DecidableEq, Repr
/-- The line states (R16). -/
inductive LineState where | open | returnWait | returned
  deriving DecidableEq, Repr
/-- The line formats (R1). -/
inductive Format where | normal | center | flushRight | justify
  deriving DecidableEq, Repr
/-- The endings of a release run (R14). -/
inductive Ending where | none | ret | wrap
  deriving DecidableEq, Repr
/-- The kinds of cells (R4). -/
inductive CellKind where | glyph | space | tab | gap
  deriving DecidableEq, Repr
/-- The states of cells (R7). -/
inductive CellState where | pending | queued | striking | struck | lifting
  deriving DecidableEq, Repr
/-- The kinds of ribbon (R118). -/
inductive RibbonKind where | fabric | film | multi
  deriving DecidableEq, Repr
/-- The kinds of correction tape (R118). -/
inductive TapeKind where | liftTape | coverTape
  deriving DecidableEq, Repr
/-- The typing modes (R30 to R32). -/
inductive TypingMode where | direct | word | line
  deriving DecidableEq, Repr
/-- The pitch setting (R50). -/
inductive PitchSetting where | native | ten | twelve | fifteen
  deriving DecidableEq, Repr
/-- The spacing setting, named by its platen steps (R107). -/
inductive Spacing where | s8 | s12 | s16 | s20 | s24
  deriving DecidableEq, Repr
/-- The spelling modes (R153). -/
inductive SpellMode where | off | alert | hold
  deriving DecidableEq, Repr
/-- The tone volume (R169). -/
inductive Volume where | off | low | high
  deriving DecidableEq, Repr
/-- The kinds of strike entries (R69, R70). -/
inductive EntryKind where | print | overprint | underscore | lift | move | feed | ret
  deriving DecidableEq, Repr
/-- The mechanism states (R74). -/
inductive Mech where | starting | idle | running | paused | halted | fault | adjust
  deriving DecidableEq, Repr
/-- The stages of an entry (R70, R74). -/
inductive Stage where | position | heatWait | fire | settle | advance
  deriving DecidableEq, Repr
/-- The halt causes, in the order of R83. -/
inductive HaltCause where
  | coverOpen | paperOut | ribbonAbsent | ribbonEnd | noWheel | tapeAbsent | tapeEnd
  deriving DecidableEq, Repr
/-- The fault codes (R89). -/
inductive FaultCode where | carrierStall | carrierHome | wheelHome | wheelId | hammer
  deriving DecidableEq, Repr
/-- The two kinds of start (R187). -/
inductive StartKind where | cold | warm
  deriving DecidableEq, Repr
/-- The steps of a carrier homing; the third moves to the physical target of the left margin (R94). -/
inductive HomingStep where | offSwitch | search | toMargin (target : Nat)
  deriving DecidableEq, Repr
/-- The dictionary ROMs (R147). -/
inductive Rom where | main | supplement
  deriving DecidableEq, Repr
/-- The states of a word record (R143, R146 to R148). -/
inductive WordState where | waiting | looking | known | unknown | skipped | unchecked
  deriving DecidableEq, Repr
/-- The kinds of erase (R136). -/
inductive EraseKind where | word | line
  deriving DecidableEq, Repr
/-- The four tones (R169). -/
inductive ToneKind where | click | bell | spell | alarm
  deriving DecidableEq, Repr
/-- The fourteen notice kinds, in the order of R183. -/
inductive NoticeKind where
  | ready | halt | fault | cleared | keyLost | textRefused | lineFull | looseLine | spell | wheel
  | liftRefused | cellDropped | dict | frameError
  deriving DecidableEq, Repr

/-! ## Power (R187) -/

structure Power where
  mainUp : Bool
  resetLow : Bool
  deriving DecidableEq, Repr

/-! ## Link Port and Key Queue (R172) -/

/-- One entry of the Key Queue (R172). -/
structure KeyEntry where
  code : Byte
  source : Source
  repeated : Bool
  deriving DecidableEq, Repr

/-- The frame in hand: what has been received of it (R172). -/
structure FrameInHand where
  kind : Option Byte
  length : Option Byte
  payload : List Byte
  deriving DecidableEq, Repr

/-- The record of the frame error log (R174). -/
structure ErrorRecord where
  error : FrameErr
  kind : Option Byte
  length : Option Byte
  payload : List Byte
  deriving DecidableEq, Repr

/-- The request in the request slot (R178), with whether its answer is followed by a start (R181). -/
structure SlotRequest where
  num : Byte
  restarts : Bool
  deriving DecidableEq, Repr

/-- What the frame being sent is (R179). -/
inductive Sent where
  | answer
  | busy
  | notice (kind : NoticeKind)
  deriving DecidableEq, Repr

/-- The transmitter: idle, or sending one frame whose bytes are given (R172, R179). -/
inductive Transmitter where
  | idle
  | sending (what : Sent) (frame : List Byte)
  deriving DecidableEq, Repr

/-- The Link Port (R172). -/
structure Link where
  receiver : Receiver
  hand : FrameInHand
  errorLog : Option ErrorRecord
  errorCount : Nat
  slot : Option SlotRequest
  /-- The payload of the answer waiting to be sent. -/
  slotAnswer : Option (List Byte)
  /-- The request number of the BUSY answer waiting to be sent. -/
  busyAnswer : Option Byte
  transmitter : Transmitter
  busyLine : Bool
  alertLow : Bool
  deriving DecidableEq, Repr

/-! ## The Line Record (R1, R3) -/

/-- The form a cell takes again when its gap-fill or overstrike group is withdrawn (R10). -/
inductive Prior where
  | struck
  | gap (wheelId : Option Nat) (energy : Option Nat) (ribbon : Option RibbonKind)
      (bold underline : Bool)
  deriving DecidableEq, Repr

/-- One cell of the line (R3). -/
structure Cell where
  id : Nat
  kind : CellKind
  code : Option Byte
  overCode : Option Byte
  x : Nat
  e : Nat
  voff : Int
  bold : Bool
  underline : Bool
  wheelId : Option Nat
  energy : Option Nat
  ribbon : Option RibbonKind
  glyphs : Nat
  state : CellState
  prior : Option Prior
  wordId : Option Nat
  deriving DecidableEq, Repr

/-- The release boundary b and the run ending, present together (R1, R14). -/
structure Run where
  b : Nat
  ending : Ending
  deriving DecidableEq, Repr

/-- The Line Record (R1). `returnId` is the identity of the RETURN entry of a RETURNED line, by which
its withdrawal is asked for (R72, R139). -/
structure Line where
  start : Nat
  state : LineState
  format : Format
  wrapped : Bool
  baselineOff : Option Int
  returnFeed : Option Int
  returnId : Option Nat
  v : Int
  cursor : Nat
  run : Option Run
  cells : List Cell
  deriving DecidableEq, Repr

/-! ## The Text Engine besides the line (R49) -/

/-- The open aligned run: the TAB cell that opened it and its stop (R60). -/
structure Aligned where
  tabCell : Nat
  stop : Nat
  deriving DecidableEq, Repr

/-- The erase in progress (R137). -/
structure Erase where
  kind : EraseKind
  stop : Nat
  deriving DecidableEq, Repr

/-- The Text Engine (R49, R137). `headDue` and `eraseDue` say that an event of R23 has come since the
head key, or the held erase, was last examined (log entry 2); `runWaits` that the release run was waiting
when it was last examined (R14, R23); `nextCell` gives cell identities. -/
structure TextEngine where
  bold : Bool
  underline : Bool
  marginRelease : Bool
  bell : Bool
  carry : List Cell
  aligned : Option Aligned
  erase : Option Erase
  headDue : Bool
  eraseDue : Bool
  runWaits : Bool
  nextCell : Nat
  deriving DecidableEq, Repr

/-- The settings (R49, R169, R186). -/
structure Settings where
  left : Nat
  right : Nat
  tabs : List Nat
  pitch : PitchSetting
  spacing : Spacing
  impression : Nat
  mode : TypingMode
  format : Format
  spell : SpellMode
  volume : Volume
  deriving DecidableEq, Repr

/-! ## The Strike Queue (R69, R71) -/

/-- One strike entry (R69). -/
structure Entry where
  id : Nat
  kind : EntryKind
  x : Option Nat
  voff : Option Int
  feed : Option Int
  offsetAfter : Option Int
  petal : Option Nat
  energy : Option Nat
  width : Option Nat
  wheelId : Option Nat
  cell : Option Nat
  first : Bool
  last : Bool
  deriving DecidableEq, Repr

structure StrikeQueue where
  entries : List Entry
  nextId : Nat
  deriving DecidableEq, Repr

/-! ## The Print Sequencer (R74) -/

/-- The entry in flight (R74). -/
structure InFlight where
  platenTarget : Int
  fired : Bool
  deriving DecidableEq, Repr

/-- The start-up in progress: its kind and which of the carrier, wheel and sensing parts have ended;
the header reads are followed by the dictionary statuses (R188). -/
structure StartUp where
  kind : StartKind
  carrierDone : Bool
  wheelDone : Bool
  sensingDone : Bool
  deriving DecidableEq, Repr

/-- The Print Sequencer (R74, R86, R188, R190, R192, R193). `draining`: the motions of a withdrawn head
are running out (R72). -/
structure Sequencer where
  mech : Mech
  stage : Option Stage
  inFlight : Option InFlight
  pause : Bool
  causes : List HaltCause
  fault : Option FaultCode
  recovering : Bool
  baseline : Int
  u : Int
  liftHeld : Bool
  draining : Bool
  testPos : Option Nat
  testStrike : Option Entry
  leaving : Bool
  startup : Option StartUp
  deriving DecidableEq, Repr

/-! ## The drives (R93, R96, R106, R114, R118) -/

/-- What the Carrier Drive is doing (R93). -/
inductive CarrierMove where
  | none
  | homing (step : HomingStep)
  | moving (target : Nat)
  deriving DecidableEq, Repr

structure Carrier where
  pos : Nat
  known : Bool
  marks : Nat
  move : CarrierMove
  deriving DecidableEq, Repr

/-- The progress of an identification (R96, R98): while searching, whether a notch has been measured
since the search began; while reading, the values read so far. -/
inductive Ident where
  | idle
  | searching (seen : Bool)
  | reading (values : List Bool)
  deriving DecidableEq, Repr

structure Wheel where
  angle : Nat
  known : Bool
  id : Nat
  present : Bool
  family : Nat
  ident : Ident
  failedReads : Nat
  holding : Option Nat
  move : Option Nat
  deriving DecidableEq, Repr

/-- What the end of a platen motion does to the baseline and typing offset (R77). -/
inductive PlatenUpdate where
  | keep
  | feed (offsetAfter : Int)
  | ret
  deriving DecidableEq, Repr

structure PlatenMove where
  target : Int
  update : PlatenUpdate
  deriving DecidableEq, Repr

structure Platen where
  counter : Int
  move : Option PlatenMove
  deriving DecidableEq, Repr

structure Hammer where
  heat : Nat
  decay : Bool
  request : Option Nat
  pulse : Option Nat
  deriving DecidableEq, Repr

/-- A sensing in progress: the last sample, how many in a row agree with it, and how many were taken
(R119). -/
structure Sensing where
  last : Option Contacts
  agreeing : Nat
  taken : Nat
  deriving DecidableEq, Repr

structure RibbonTape where
  kind : Option RibbonKind
  tape : Option TapeKind
  sensing : Option Sensing
  ribbonUp : Bool
  tapeUp : Bool
  /-- The steps of the advance in progress (R120, R122). -/
  advance : Nat
  deriving DecidableEq, Repr

/-! ## The Condition Inputs (R108, R109) -/

/-- One input: true means open, out, at end, at home. -/
structure InputState where
  raw : Bool
  qualified : Bool
  timing : Bool
  deriving DecidableEq, Repr

/-- The six inputs, and the two parts of the cover-close work that have not ended (R109). -/
structure Inputs where
  cover : InputState
  paper : InputState
  ribbonEnd : InputState
  tapeEnd : InputState
  carrierHome : InputState
  hammerHome : InputState
  coverIdent : Bool
  coverSense : Bool
  deriving DecidableEq, Repr

/-! ## The Spelling Unit (R143, R147, R158) -/

structure WordRecord where
  id : Nat
  first : Nat
  count : Nat
  letters : Option (List Nat)
  state : WordState
  accepted : Bool
  deriving DecidableEq, Repr

structure LookupEntry where
  id : Nat
  letters : List Nat
  deriving DecidableEq, Repr

structure Lookup where
  id : Nat
  letters : List Nat
  dropped : Bool
  rom : Rom
  reads : Nat
  deriving DecidableEq, Repr

/-- The Dictionary Port (R151): idle, or reading a header or one bucket. -/
inductive DictPort where
  | idle
  | header (rom : Rom)
  | bucket (rom : Rom) (index : Nat)
  deriving DecidableEq, Repr

inductive DictStatus where
  | notRead
  | absent
  | present (bcount : Nat)
  deriving DecidableEq, Repr

structure Spelling where
  table : List WordRecord
  lookups : List LookupEntry
  lookup : Option Lookup
  port : DictPort
  main : DictStatus
  supplement : DictStatus
  mainFormat : Bool
  suppFormat : Bool
  nextId : Nat
  endClosed : Bool
  deriving DecidableEq, Repr

/-! ## Display and tones (R159, R169) -/

/-- A transient message (R164): whether it is a "? word" message, and the word record it then names
while that record stands. -/
structure Message where
  text : List Byte
  isWord : Bool
  word : Option Nat
  deriving DecidableEq, Repr

/-- The Display Controller (R159). `told` and `cursorTold` say that in the event in hand it has been told
of a change that brings a render, and of a change of the cursor (R2, R162, R167); a render clears both. -/
structure Display where
  origin : Nat
  phaseOn : Bool
  blinkTimer : Nat
  slot : Option Message
  slotTimer : Option Nat
  current : List Byte
  next : List Byte
  go : Bool
  sending : Bool
  told : Bool
  cursorTold : Bool
  deriving DecidableEq, Repr

structure Tone where
  kind : ToneKind
  repeating : Bool
  deriving DecidableEq, Repr

structure ToneGenerator where
  sounding : Option Tone
  waiting : Option Tone
  deriving DecidableEq, Repr

/-! ## The Notice Table (R183) -/

structure NoticeRow where
  raised : Bool
  enabled : Bool
  count : Nat
  data : List Byte
  deriving DecidableEq, Repr

/-- One row for each notice kind (R183). -/
structure NoticeRows where
  ready : NoticeRow
  halt : NoticeRow
  fault : NoticeRow
  cleared : NoticeRow
  keyLost : NoticeRow
  textRefused : NoticeRow
  lineFull : NoticeRow
  looseLine : NoticeRow
  spell : NoticeRow
  wheel : NoticeRow
  liftRefused : NoticeRow
  cellDropped : NoticeRow
  dict : NoticeRow
  frameError : NoticeRow
  deriving DecidableEq, Repr

structure NoticeTable where
  rows : NoticeRows
  last : NoticeKind
  deriving DecidableEq, Repr

/-! ## The Retained Area (R186) -/

structure Retained where
  marker : Bool
  settings : Settings
  /-- The notice mask: the kinds enabled, in the order of R183. -/
  mask : List Bool
  impression : Int
  wheelPhase : Int
  printOffset : Int
  pattern : List Byte
  words : List (List Nat)
  deriving DecidableEq, Repr

/-! ## The whole -/

/-- The state of the part and the queue of waiting commands. -/
structure State where
  pending : List Instr
  power : Power
  link : Link
  keys : List KeyEntry
  line : Line
  text : TextEngine
  settings : Settings
  strikes : StrikeQueue
  seq : Sequencer
  carrier : Carrier
  wheel : Wheel
  platen : Platen
  hammer : Hammer
  ribbon : RibbonTape
  inputs : Inputs
  spell : Spelling
  display : Display
  tone : ToneGenerator
  notices : NoticeTable
  retained : Retained
  deriving DecidableEq, Repr

/-! ## Values after a start -/

/-- The defaults of the settings (R186). -/
def Settings.default : Settings :=
  ⟨120, 1080, [], .native, .s8, 3, .direct, .normal, .alert, .low⟩

/-- The Retained Area as a cold start loads it (R186, R187). -/
def Retained.default : Retained :=
  { marker := true, settings := .default, mask := List.replicate 14 true, impression := 0,
    wheelPhase := 0, printOffset := 0, pattern := Config.testPattern, words := [] }

/-- The Link Port after a start (R172). -/
def Link.start : Link :=
  { receiver := .hunt, hand := ⟨none, none, []⟩, errorLog := none, errorCount := 0, slot := none,
    slotAnswer := none, busyAnswer := none, transmitter := .idle, busyLine := false,
    alertLow := false }

/-- The empty record of a line open (R18). -/
def Line.opened (start : Nat) (v : Int) (format : Format) : Line :=
  { start := start, state := .open, format := format, wrapped := false, baselineOff := none,
    returnFeed := none, returnId := none, v := v, cursor := 0, run := none, cells := [] }

/-- The Text Engine after a start (R49, R141). -/
def TextEngine.start : TextEngine :=
  { bold := false, underline := false, marginRelease := false, bell := false, carry := [],
    aligned := none, erase := none, headDue := false, eraseDue := false,
    runWaits := false, nextCell := 0 }

/-- The Print Sequencer in the event of a start (R74, R188). -/
def Sequencer.start (kind : StartKind) : Sequencer :=
  { mech := .starting, stage := none, inFlight := none, pause := false, causes := [], fault := none,
    recovering := false, baseline := 0, u := 0, liftHeld := false, draining := false,
    testPos := none, testStrike := none, leaving := false,
    startup := some ⟨kind, false, false, false⟩ }

/-- The first step of a carrier homing, by the qualified carrier home input (R94). -/
def homingFirst (atHome : Bool) : HomingStep := if atHome then .offSwitch else .search

/-- The Carrier Drive in the event of a start, its homing begun (R93, R188). -/
def Carrier.start (atHome : Bool) : Carrier :=
  { pos := 0, known := false, marks := 0, move := .homing (homingFirst atHome) }

/-- The Wheel Drive in the event of a start, its identification begun (R96, R188). -/
def Wheel.start : Wheel :=
  { angle := 0, known := false, id := 1, present := false, family := 1, ident := .searching false,
    failedReads := 0, holding := none, move := none }

/-- The Platen Drive after a start (R106). -/
def Platen.start : Platen := { counter := 0, move := none }

/-- The Hammer Driver after a start (R114, R116). -/
def Hammer.start : Hammer :=
  { heat := Config.heatFull, decay := true, request := none, pulse := none }

/-- The Ribbon and Tape block in the event of a start, its sensing begun (R118, R188). -/
def RibbonTape.start : RibbonTape :=
  { kind := none, tape := none, sensing := some ⟨none, 0, 0⟩, ribbonUp := false, tapeUp := false,
    advance := 0 }

/-- The Spelling Unit in the event of a start, the header reads begun (R158, R188). -/
def Spelling.start : Spelling :=
  { table := [], lookups := [], lookup := none, port := .header .main, main := .notRead,
    supplement := .notRead, mainFormat := false, suppFormat := false, nextId := 0,
    endClosed := false }

/-- The blank frame: command byte, 80 blanks, no marks, no lamps (R159). -/
def blankFrame : List Byte :=
  0xD0 :: (List.replicate 80 0x20 ++ List.replicate 11 0x00)

/-- The Display Controller after a start, before the start's own render (R159). -/
def Display.start : Display :=
  { origin := 0, phaseOn := true, blinkTimer := Config.blinkPeriod, slot := none, slotTimer := none,
    current := blankFrame, next := blankFrame, go := false, sending := false, told := false,
    cursorTold := false }

/-- A row of the Notice Table after a start (R183). -/
def NoticeRow.start (enabled : Bool) : NoticeRow := ⟨false, enabled, 0, []⟩

/-- The Notice Table after a start, enabled by the retained mask (R183). -/
def NoticeTable.start (mask : List Bool) : NoticeTable :=
  let row (i : Nat) := NoticeRow.start (mask.getD i true)
  { rows := ⟨row 0, row 1, row 2, row 3, row 4, row 5, row 6, row 7, row 8, row 9, row 10, row 11,
      row 12, row 13⟩,
    last := .frameError }

/-- One input after a start: the qualified state is the raw level and the timer is stopped (R108). -/
def InputState.start (raw : Bool) : InputState := ⟨raw, raw, false⟩

/-- The frame of the cold start's render (R159, R163, R166): the cursor block in column 0, the text
STARTING in row 2, and the SPELL lamp. -/
def startFrame : List Byte :=
  0xD0 :: 0x1F :: (List.replicate 39 0x20 ++
    [0x53, 0x54, 0x41, 0x52, 0x54, 0x49, 0x4E, 0x47] ++ List.replicate 32 0x20 ++
    List.replicate 10 0x00 ++ [0x04])

/-- The machine right after a cold start (R187, R188): every block at the value its chapter gives, the
four parts of the start-up begun and the start's frame being sent. The raw levels of the six inputs
are the model's choice (log entry 7): cover closed, paper present, ribbon and tape clear, carrier
away from home, hammer at home. -/
def State.reset : State :=
  { pending := [],
    power := ⟨true, false⟩,
    link := .start,
    keys := [],
    line := .opened 120 0 .normal,
    text := .start,
    settings := .default,
    strikes := ⟨[], 0⟩,
    seq := .start .cold,
    carrier := .start false,
    wheel := .start,
    platen := .start,
    hammer := .start,
    ribbon := .start,
    inputs := ⟨.start false, .start false, .start false, .start false, .start false, .start true,
      false, false⟩,
    spell := .start,
    display := { Display.start with current := startFrame, next := startFrame, sending := true },
    tone := ⟨none, none⟩,
    notices := .start (List.replicate 14 true),
    retained := .default }

end Sys2Proof.Machine
end

