-- ==== Sys2Proof/Machine/Operands.lean ====
section
/-! DEFINITION. How the bytes that carry keys, requests, printer data and words are read: key codes and
classes (R21, R185), printer data (R176), request arguments (R180, R185), word codes (R142, R157), and
the receiver's judgement of a frame (R173). -/

namespace Sys2Proof.Machine

/-! ## Key codes (R21, R185) -/

/-- The 96 graphic codes (R185). -/
def isGraphic (c : Byte) : Bool :=
  (0x21 ≤ c.toNat && c.toNat ≤ 0x7E) || c = 0xA7 || c = 0xB0

/-- The keys of R21, and the codes that stand for no key (R22). -/
inductive KeyKind where
  | graphic | space | tab | decimalTab | returnKey | index | reverseIndex | halfUp | halfDown
  | backspace | forward | relocate | correct | wordErase | lineErase | acceptWord | addWord
  | center | flushRight | marginRelease | setLeft | setRight | tabSet | tabClear | bold
  | underline | printHold | unknown
  deriving DecidableEq, Repr

/-- The key a code stands for (R185, "Key codes"). -/
def keyKind (c : Byte) : KeyKind :=
  if isGraphic c then .graphic else
  match c.toNat with
  | 0x01 => .returnKey | 0x02 => .tab | 0x03 => .decimalTab | 0x04 => .backspace
  | 0x05 => .forward | 0x06 => .relocate | 0x07 => .correct | 0x08 => .wordErase
  | 0x09 => .lineErase | 0x0A => .index | 0x0B => .reverseIndex | 0x0C => .halfUp
  | 0x0D => .halfDown | 0x0E => .marginRelease | 0x0F => .setLeft | 0x10 => .setRight
  | 0x11 => .tabSet | 0x12 => .tabClear | 0x13 => .center | 0x14 => .flushRight
  | 0x15 => .bold | 0x16 => .underline | 0x17 => .acceptWord | 0x18 => .addWord
  | 0x19 => .printHold | 0x20 => .space | _ => .unknown

/-- The classes of R21; a code that stands for no key has none. -/
inductive KeyClass where
  | printing | lineMoving | cursor | correction | word | layout | attr | noKey
  deriving DecidableEq, Repr

/-- The class of a key (R21). -/
def keyClass : KeyKind → KeyClass
  | .graphic | .space | .tab | .decimalTab => .printing
  | .returnKey | .index | .reverseIndex | .halfUp | .halfDown => .lineMoving
  | .backspace | .forward | .relocate => .cursor
  | .correct | .wordErase | .lineErase => .correction
  | .acceptWord | .addWord => .word
  | .center | .flushRight | .marginRelease | .setLeft | .setRight | .tabSet | .tabClear => .layout
  | .bold | .underline | .printHold => .attr
  | .unknown => .noKey

/-- The Key Queue entry a byte of printer data makes, none where it is dropped (R176). -/
def textEntry (b : Byte) : Option Byte :=
  match b.toNat with
  | 0x0D => some 0x01
  | 0x09 => some 0x02
  | 0x08 => some 0x04
  | 0x0A => some 0x0A
  | n => if n < 0x20 then none else some b

/-! ## Request arguments (R180, R185) -/

/-- A list of bytes as 2-byte numbers, high byte first; none for an odd number of bytes. -/
def wides : List Byte → Option (List Nat)
  | [] => some []
  | [_] => none
  | h :: l :: rest => (wides rest).map (wide h l :: ·)

/-- The step of ADJUST_STEP: +1 or −1 in two's complement (R185). -/
def trimStep (b : Byte) : Option Int :=
  if b = 0x01 then some 1 else if b = 0xFF then some (-1) else none

/-- The pitch argument (R185). -/
def pitchArg (b : Byte) : Option PitchSetting :=
  match b.toNat with
  | 0 => some .native | 10 => some .ten | 12 => some .twelve | 15 => some .fifteen | _ => none

/-- The spacing argument in platen steps (R185). -/
def spacingArg (b : Byte) : Option Spacing :=
  match b.toNat with
  | 8 => some .s8 | 12 => some .s12 | 16 => some .s16 | 20 => some .s20 | 24 => some .s24
  | _ => none

/-- The typing mode argument (R185). -/
def modeArg (b : Byte) : Option TypingMode :=
  match b.toNat with
  | 0 => some .direct | 1 => some .word | 2 => some .line | _ => none

/-- The format argument (R185). -/
def formatArg (b : Byte) : Option Format :=
  match b.toNat with
  | 0 => some .normal | 1 => some .center | 2 => some .flushRight | 3 => some .justify | _ => none

/-- The spelling mode argument (R185). -/
def spellArg (b : Byte) : Option SpellMode :=
  match b.toNat with
  | 0 => some .off | 1 => some .alert | 2 => some .hold | _ => none

/-- The tone volume argument (R185). -/
def volumeArg (b : Byte) : Option Volume :=
  match b.toNat with
  | 0 => some .off | 1 => some .low | 2 => some .high | _ => none

/-- The tone argument of SOUND_TONE (R185). -/
def toneArg (b : Byte) : Option ToneKind :=
  match b.toNat with
  | 0 => some .click | 1 => some .bell | 2 => some .spell | 3 => some .alarm | _ => none

/-- The impression value: any value, clamped to 1 to 5 (R180). -/
def impressionArg (b : Byte) : Nat := max 1 (min 5 b.toNat)

/-- The request codes of R185. -/
def listedCode (code : Byte) : Bool := 1 ≤ code.toNat && code.toNat ≤ 0x1B

/-- Whether a request with these arguments is a good REQUEST frame: at most 48 bytes with its number
and code (R173). -/
def goodRequest (args : List Byte) : Bool := args.length ≤ 46

/-! ## Word codes (R142, R157) -/

/-- Letter codes (R142). -/
def isLetter (c : Byte) : Bool :=
  (0x41 ≤ c.toNat && c.toNat ≤ 0x5A) || (0x61 ≤ c.toNat && c.toNat ≤ 0x7A)

/-- The code of a capital letter. -/
def isCapital (c : Byte) : Bool := 0x41 ≤ c.toNat && c.toNat ≤ 0x5A

/-- The code of a lower-case letter. -/
def isLower (c : Byte) : Bool := 0x61 ≤ c.toNat && c.toNat ≤ 0x7A

/-- The apostrophe (R142). -/
def isApostrophe (c : Byte) : Bool := c = 0x27

/-- Digit codes (R142). -/
def isDigit (c : Byte) : Bool := 0x30 ≤ c.toNat && c.toNat ≤ 0x39

/-- The folded code of a letter or apostrophe: a and A are 1, z and Z are 26, the apostrophe is 27
(R142). -/
def foldCode (c : Byte) : Option Nat :=
  if isCapital c then some (c.toNat - 0x40)
  else if isLower c then some (c.toNat - 0x60)
  else if isApostrophe c then some 27
  else none

/-- The folded codes of a list of codes; none where one of them is no letter and no apostrophe. -/
def foldCodes : List Byte → Option (List Nat)
  | [] => some []
  | c :: cs => match foldCode c, foldCodes cs with
    | some n, some ns => some (n :: ns)
    | _, _ => none

/-- No two apostrophes stand in a row. -/
def noDoubleApostrophe : List Nat → Bool
  | 27 :: 27 :: _ => false
  | _ :: rest => noDoubleApostrophe rest
  | [] => true

/-- The form of a word of the User Word List: 2 to 24 folded codes, a letter at both ends, no two
apostrophes in a row (R157). -/
def wordForm (w : List Nat) : Bool :=
  2 ≤ w.length && w.length ≤ Config.longestWord && w.head? != some 27 && w.getLast? != some 27 &&
    noDoubleApostrophe w

/-! ## The receiver's judgement of a frame (R173) -/

/-- What the bytes after the lead byte come to: not yet a frame, an error found at a byte, or a good
frame; with the bytes that follow the deciding one. -/
inductive Judgement where
  | incomplete (hand : FrameInHand)
  | error (err : FrameErr) (hand : FrameInHand) (rest : List RxByte)
  | good (hand : FrameInHand) (rest : List RxByte)
  deriving DecidableEq, Repr

/-- The kinds the receiver takes in: KEY, TEXT and REQUEST (R173). -/
def isFrameKind (k : Byte) : Bool := k = 0x01 || k = 0x02 || k = 0x03

/-- The LENGTH error of R173. -/
def badLength (k l : Byte) : Bool :=
  48 < l.toNat || (k = 0x01 && l.toNat ≠ 2) || (k = 0x02 && l.toNat = 0) ||
    (k = 0x03 && l.toNat < 2)

/-- Where a received byte goes in the frame in hand: kind, then length, then payload. The check byte
is not part of it. -/
def FrameInHand.put (h : FrameInHand) (b : Byte) : FrameInHand :=
  match h.kind, h.length with
  | none, _ => { h with kind := some b }
  | some _, none => { h with length := some b }
  | some _, some l =>
    if h.payload.length < l.toNat then { h with payload := h.payload ++ [b] } else h

/-- Each byte is judged as it arrives, and the first failure found is the frame's error (R173). A byte
with its stop bit low is recorded as received (log entry 11). -/
def judgeFrom (h : FrameInHand) (sum : Byte) : List RxByte → Judgement
  | [] => .incomplete h
  | b :: rest =>
    if b.stopLow then .error .stop (h.put b.value) rest else
    match h.kind, h.length with
    | none, _ =>
      if isFrameKind b.value then judgeFrom (h.put b.value) (sum + b.value) rest
      else .error .kind (h.put b.value) rest
    | some k, none =>
      if badLength k b.value then .error .length (h.put b.value) rest
      else judgeFrom (h.put b.value) (sum + b.value) rest
    | some _, some l =>
      if h.payload.length < l.toNat then judgeFrom (h.put b.value) (sum + b.value) rest
      else if sum + b.value = 0 then .good h rest
      else .error .check h rest

/-- The judgement of the bytes received after a lead byte. -/
def judge (rx : List RxByte) : Judgement := judgeFrom ⟨none, none, []⟩ 0 rx

/-- The bytes of a good frame after its lead byte: kind, length, payload, check (R173). -/
def frameBody (kind : Byte) (payload : List Byte) : List Byte :=
  let body := kind :: byteOf payload.length :: payload
  body ++ [-(byteSum body)]

/-- A whole frame with its lead byte 0xC3 (R173, R185). -/
def frameBytes (kind : Byte) (payload : List Byte) : List Byte := 0xC3 :: frameBody kind payload

end Sys2Proof.Machine
end

