-- ==== Sys2Proof/Machine/Ops.lean ====
section
/-! DEFINITION. The named operations over the queues, tables and registers that the meanings share:
notices, tones, messages, the Key Queue, the Strike Queue, cells of the Line Record, line open and
close, settings and answers. -/

namespace Sys2Proof.Machine

/-! ## Codes seen outside (R185) -/

/-- The number of a notice kind (R185). -/
def NoticeKind.number : NoticeKind → Nat
  | .ready => 1 | .halt => 2 | .fault => 3 | .cleared => 4 | .keyLost => 5 | .textRefused => 6
  | .lineFull => 7 | .looseLine => 8 | .spell => 9 | .wheel => 10 | .liftRefused => 11
  | .cellDropped => 12 | .dict => 13 | .frameError => 14

/-- The fourteen kinds in the order of R183. -/
def NoticeKind.all : List NoticeKind :=
  [.ready, .halt, .fault, .cleared, .keyLost, .textRefused, .lineFull, .looseLine, .spell, .wheel,
    .liftRefused, .cellDropped, .dict, .frameError]

/-- The halt causes in the order of R83. -/
def HaltCause.all : List HaltCause :=
  [.coverOpen, .paperOut, .ribbonAbsent, .ribbonEnd, .noWheel, .tapeAbsent, .tapeEnd]

/-- The bit of a halt cause (R185). -/
def HaltCause.weight : HaltCause → Nat
  | .coverOpen => 1 | .paperOut => 2 | .ribbonAbsent => 4 | .ribbonEnd => 8 | .noWheel => 16
  | .tapeAbsent => 32 | .tapeEnd => 64

/-- The halt cause set as a byte, one bit per cause (R185). -/
def causeByte (cs : List HaltCause) : Byte := byteOf ((cs.map HaltCause.weight).sum)

/-- The fault code as a number (R185). -/
def faultNumber : Option FaultCode → Nat
  | none => 0 | some .carrierStall => 1 | some .carrierHome => 2 | some .wheelHome => 3
  | some .wheelId => 4 | some .hammer => 5

/-- The frame error kind as a number (R185). -/
def FrameErr.number : FrameErr → Nat
  | .check => 1 | .length => 2 | .kind => 3 | .gap => 4 | .stop => 5

/-- The source of a key as the data of KEY_LOST gives it (R185). -/
def Source.number : Source → Nat
  | .key => 0 | .text => 1

/-! ## Notices (R183) -/

/-- The row of a kind. -/
def NoticeRows.row (t : NoticeRows) : NoticeKind → NoticeRow
  | .ready => t.ready | .halt => t.halt | .fault => t.fault | .cleared => t.cleared
  | .keyLost => t.keyLost | .textRefused => t.textRefused | .lineFull => t.lineFull
  | .looseLine => t.looseLine | .spell => t.spell | .wheel => t.wheel
  | .liftRefused => t.liftRefused | .cellDropped => t.cellDropped | .dict => t.dict
  | .frameError => t.frameError

/-- The table with the row of one kind replaced. -/
def NoticeRows.setRow (t : NoticeRows) (k : NoticeKind) (r : NoticeRow) : NoticeRows :=
  match k with
  | .ready => { t with ready := r } | .halt => { t with halt := r }
  | .fault => { t with fault := r } | .cleared => { t with cleared := r }
  | .keyLost => { t with keyLost := r } | .textRefused => { t with textRefused := r }
  | .lineFull => { t with lineFull := r } | .looseLine => { t with looseLine := r }
  | .spell => { t with spell := r } | .wheel => { t with wheel := r }
  | .liftRefused => { t with liftRefused := r } | .cellDropped => { t with cellDropped := r }
  | .dict => { t with dict := r } | .frameError => { t with frameError := r }

/-- An occurrence: pending set, the count risen by 1 up to 255, the data replaced (R183). -/
def NoticeRow.occur (r : NoticeRow) (data : List Byte) : NoticeRow :=
  { r with raised := true, count := min 255 (r.count + 1), data := data }

/-- A notice is raised (R183, "An occurrence"). -/
def State.raise (k : NoticeKind) (data : List Byte) (s : State) : State :=
  { s with notices := { s.notices with
      rows := s.notices.rows.setRow k ((s.notices.rows.row k).occur data) } }

/-! ## Tones (R169, R170) -/

/-- The priority of a tone (R169). -/
def ToneKind.priority : ToneKind → Nat
  | .click => 1 | .bell => 2 | .spell => 3 | .alarm => 4

/-- A tone request, by the first line of R170's table that applies. -/
def ToneGenerator.request (t : ToneGenerator) (vol : Volume) (k : ToneKind) (rep : Bool) :
    ToneGenerator :=
  match vol with
  | .off => t
  | _ => match t.sounding with
    | some snd =>
      if k = .alarm then
        if snd.kind = .alarm then
          { t with sounding := some { snd with repeating := snd.repeating || rep } }
        else { t with sounding := some ⟨.alarm, rep⟩ }
      else match t.waiting with
        | none => { t with waiting := some ⟨k, rep⟩ }
        | some w => if w.kind.priority ≤ k.priority then { t with waiting := some ⟨k, rep⟩ } else t
    | none => { t with sounding := some ⟨k, rep⟩ }

/-- A tone is asked for (R170). -/
def State.requestTone (k : ToneKind) (rep : Bool) (s : State) : State :=
  { s with tone := s.tone.request s.settings.volume k rep }

/-- The sounding slot is emptied and the pending tone, if any, sounds (R171). -/
def ToneGenerator.endSounding (t : ToneGenerator) : ToneGenerator :=
  { sounding := t.waiting, waiting := none }

/-- The fault has cleared: a repeating ALARM stops at once (R171). -/
def State.stopAlarm (s : State) : State :=
  match s.tone.sounding with
  | some ⟨.alarm, true⟩ => { s with tone := s.tone.endSounding }
  | _ => s

/-- The CLICK of a refused key (R22). -/
def State.click (s : State) : State := s.requestTone .click false

/-! ## The message slot (R164) -/

/-- The bytes of a text. -/
def ascii (t : String) : List Byte := t.toList.map fun c => byteOf c.toNat

/-- The decimal digits of a number, by fuel. -/
def digitsFuel : Nat → Nat → List Byte
  | 0, _ => []
  | f + 1, n =>
    if n < 10 then [byteOf (0x30 + n)] else digitsFuel f (n / 10) ++ [byteOf (0x30 + n % 10)]

/-- A number in decimal. -/
def decimal (n : Nat) : List Byte := digitsFuel 20 n

/-- A transient message goes into the slot and its timer starts at 3000 ms; its arrival brings a render
(R164, R167). -/
def State.putMessage (text : List Byte) (word : Option Nat) (s : State) : State :=
  { s with display := { s.display with
      slot := some ⟨text, word.isSome, word⟩, slotTimer := some Config.messageLife, told := true } }

/-- The slot is emptied and its timer stopped; the emptying of a message brings a render (R164,
R167). -/
def State.emptySlot (s : State) : State :=
  { s with display := { s.display with
      slot := none, slotTimer := none, told := s.display.told || s.display.slot.isSome } }

/-- The "? word" message of one record is removed from the slot (R145, R155, R164). -/
def State.dropWordMessage (id : Nat) (s : State) : State :=
  match s.display.slot with
  | some m => if m.word = some id then s.emptySlot else s
  | none => s

/-- Any "? word" message is removed from the slot, one whose record has gone with its line too (R153). -/
def State.dropAnyWordMessage (s : State) : State :=
  match s.display.slot with
  | some m => if m.isWord then s.emptySlot else s
  | none => s

/-- A LINE_FULL notice carries the refused key's code, and the slot takes its message (R6, R164). -/
def State.raiseLineFull (code : Byte) (s : State) : State :=
  (s.raise .lineFull [code]).putMessage (ascii "LINE FULL") none

/-- A LOOSE_LINE notice carries S and G (R67), with its message (R164). -/
def State.raiseLooseLine (slack gaps : Nat) (s : State) : State :=
  (s.raise .looseLine (wideBytes slack ++ [byteOf gaps])).putMessage
    (ascii "LOOSE LINE S=" ++ decimal slack ++ ascii " G=" ++ decimal gaps) none

/-- The causes a lift-off is refused for (R130). -/
inductive LiftCause where | wheelChanged | tapeAbsent | incompatible
  deriving DecidableEq, Repr

/-- The number of a LIFT_REFUSED cause (R185). -/
def LiftCause.number : LiftCause → Nat
  | .wheelChanged => 0 | .tapeAbsent => 1 | .incompatible => 2

/-- The cause as the message shows it, with spaces for underscores (R164). -/
def LiftCause.text : LiftCause → List Byte
  | .wheelChanged => ascii "WHEEL CHANGED"
  | .tapeAbsent => ascii "TAPE ABSENT"
  | .incompatible => ascii "INCOMPATIBLE"

/-- A LIFT_REFUSED notice with its cause and code, and its message (R130, R164). -/
def State.raiseLiftRefused (cause : LiftCause) (code : Byte) (s : State) : State :=
  (s.raise .liftRefused [byteOf cause.number, code]).putMessage
    (ascii "LIFT REFUSED: " ++ cause.text) none

/-! ## The Key Queue (R172, R177, R23) -/

/-- The free count of the Key Queue. -/
def State.keyFree (s : State) : Nat := Config.keyPlaces - s.keys.length

/-- The BUSY level by the free count: asserted at 8 or fewer, deasserted at 24 or more (R177). -/
def busyLevel (free : Nat) (level : Bool) : Bool :=
  if free ≤ 8 then true else if 24 ≤ free then false else level

/-- The Key Queue takes a new content and BUSY follows its free count (R177). -/
def State.setKeys (ks : List KeyEntry) (s : State) : State :=
  { s with keys := ks,
           link := { s.link with
             busyLine := busyLevel (Config.keyPlaces - ks.length) s.link.busyLine } }

/-- An event of R23 has come: the head key is to be examined, and a held erase taken up (R23, R137). -/
def State.noteR23 (s : State) : State :=
  { s with text := { s.text with headDue := true, eraseDue := true } }

/-- Entries join the tail of the Key Queue; joining an empty queue is an event of R23. -/
def State.joinKeys (new : List KeyEntry) (s : State) : State :=
  let joined := s.setKeys (s.keys ++ new)
  if s.keys.isEmpty && !new.isEmpty then joined.noteR23 else joined

/-- A key is taken: the message slot is emptied (R164), the key leaves the queue, and the Text Engine
will examine the next one (R23). -/
def State.takeHead (s : State) : State :=
  ((s.emptySlot).setKeys s.keys.tail).noteR23

/-- A KEY_LOST notice carries its cause, the code and the source (R22, R175). -/
def State.raiseKeyLost (cause : Nat) (code : Byte) (src : Source) (s : State) : State :=
  s.raise .keyLost [byteOf cause, code, byteOf src.number]

/-! ## The Strike Queue (R71, R72) -/

/-- The free count of the Strike Queue (R71). -/
def State.strikeFree (s : State) : Nat := Config.strikePlaces - s.strikes.entries.length

/-- Identities given to the entries of a group in order, from n on (R69). -/
def number (n : Nat) : List Entry → List Entry
  | [] => []
  | e :: es => { e with id := n } :: number (n + 1) es

/-- The last mark on the last entry only. -/
def markLast : List Entry → List Entry
  | [] => []
  | [e] => [{ e with last := true }]
  | e :: es => { e with last := false } :: markLast es

/-- The first mark on the first entry only and the last mark on the last only (R71). -/
def markGroup (es : List Entry) : List Entry :=
  match markLast (es.map fun e => { e with first := false }) with
  | [] => []
  | e :: rest => { e with first := true } :: rest

/-- An append of one whole group at the tail, refused whole when the free count is less than its size
(R71). -/
def State.appendGroup (es : List Entry) (s : State) : State :=
  if s.strikes.entries.length + es.length ≤ Config.strikePlaces then
    { s with strikes :=
        { entries := s.strikes.entries ++ number s.strikes.nextId (markGroup es),
          nextId := s.strikes.nextId + es.length } }
  else s

/-- An entry of a kind with every optional field absent. -/
def Entry.plain (k : EntryKind) : Entry :=
  { id := 0, kind := k, x := none, voff := none, feed := none, offsetAfter := none, petal := none,
    energy := none, width := none, wheelId := none, cell := none, first := false, last := false }

/-- The striking kinds (R70). -/
def EntryKind.striking : EntryKind → Bool
  | .print | .overprint | .underscore | .lift => true
  | .move | .feed | .ret => false

/-- The group at the head: its entries up to the first that carries the last mark (R71). -/
def headGroup : List Entry → List Entry
  | [] => []
  | e :: es => if e.last then [e] else e :: headGroup es

/-- What stands behind the group at the head. -/
def afterHeadGroup : List Entry → List Entry
  | [] => []
  | e :: es => if e.last then es else afterHeadGroup es

/-! ## The Line Record (R2, R5, R15) -/

/-- The end position: the end of the last cell, or s in an empty record (R1, R54). -/
def Line.endPos (l : Line) : Nat :=
  match l.cells.getLast? with
  | some c => c.x + c.e
  | none => l.start

/-- The index of a cell by its identity. -/
def cellIndex (id : Nat) : List Cell → Option Nat
  | [] => none
  | c :: cs => if c.id = id then some 0 else (cellIndex id cs).map (· + 1)

/-- A cell by its identity. -/
def Line.find (l : Line) (id : Nat) : Option Cell := l.cells.find? fun c => c.id = id

/-- A cell's fields are changed in place; the cursor does not move (R2). -/
def State.mapCell (id : Nat) (f : Cell → Cell) (s : State) : State :=
  { s with line := { s.line with
      cells := s.line.cells.map fun c => if c.id = id then f c else c } }

/-- A change of the cursor is reported to the Display Controller (R2). -/
def Display.hearCursor (old new : Nat) (d : Display) : Display :=
  if old = new then d else { d with cursorTold := true }

/-- The cursor is set, a change of it reported (R2). -/
def State.setCursor (c : Nat) (s : State) : State :=
  { s with line := { s.line with cursor := c }, display := s.display.hearCursor s.line.cursor c }

/-- One less if the removed index lies below (R2, R15, R137). -/
def below (i n : Nat) : Nat := if i < n then n - 1 else n

/-- The cell at an index leaves the record: the cursor (R2), the release boundary (R15) and the stop
index of a held erase (R137) follow, and an aligned run whose TAB cell leaves ends (R62). -/
def State.removeCell (i : Nat) (s : State) : State :=
  let gone := s.line.cells[i]?
  { s with
    line := { s.line with
      cells := s.line.cells.eraseIdx i,
      cursor := below i s.line.cursor,
      run := s.line.run.map fun r => { r with b := below i r.b } },
    text := { s.text with
      erase := s.text.erase.map fun e => { e with stop := below i e.stop },
      aligned := s.text.aligned.filter fun a => gone.map (·.id) != some a.tabCell },
    display := s.display.hearCursor s.line.cursor (below i s.line.cursor) }

/-- The cursor after an insertion at an index (R2). -/
def cursorAfter (i c : Nat) : Nat := if i ≤ c then c + 1 else c

/-- A new cell is inserted at an index with a fresh identity: the cursor follows (R2), the boundary
rises (R15), and an append at the end clears the end-closed flag (R142). -/
def State.insertCell (i : Nat) (c : Cell) (s : State) : State :=
  { s with
    line := { s.line with
      cells := s.line.cells.insertIdx i { c with id := s.text.nextCell },
      cursor := cursorAfter i s.line.cursor,
      run := s.line.run.map fun r => { r with b := if i < r.b then r.b + 1 else r.b } },
    text := { s.text with nextCell := s.text.nextCell + 1 },
    spell := { s.spell with
      endClosed := s.spell.endClosed && decide (i < s.line.cells.length) },
    display := s.display.hearCursor s.line.cursor (cursorAfter i s.line.cursor) }

/-- A release run is started or extended: b raised to k, the ending replaced when the decision names
RETURN or WRAP (R14). -/
def extendRun (r : Option Run) (k : Nat) (ending : Ending) : Run :=
  match r with
  | none => ⟨k, ending⟩
  | some r => ⟨max r.b k, if ending = .none then r.ending else ending⟩

/-- The Text Engine decides to release the first k cells (R14). -/
def State.startRun (k : Nat) (ending : Ending) (s : State) : State :=
  { s with line := { s.line with run := some (extendRun s.line.run k ending) } }

/-- A line close (R19): the entries lose their cell references, the word records and their lookups are
discarded, and a lookup in progress is dropped. The record itself is replaced by the open. -/
def State.closeLine (s : State) : State :=
  { s with
    strikes := { s.strikes with
      entries := s.strikes.entries.map fun e => { e with cell := none } },
    spell := { s.spell with
      table := [], lookups := [],
      lookup := s.spell.lookup.map fun l => { l with dropped := true } },
    display := { s.display with
      slot := s.display.slot.map fun m => { m with word := none } } }

/-- A line open (R18): an empty record, margin release off (R42), the bell flag clear (R45), no aligned
run (R60) and the end-closed flag clear (R142). It brings a render, and the cursor is reported (R2, R19,
R167). -/
def State.openLine (start : Nat) (v : Int) (s : State) : State :=
  { s with
    line := .opened start v s.settings.format,
    text := { s.text with marginRelease := false, bell := false, aligned := none },
    spell := { s.spell with endClosed := false },
    display := { s.display.hearCursor s.line.cursor 0 with told := true } }

/-- The close of a RETURNED line and the open of the next at the left margin (R16, R18). -/
def State.nextLine (s : State) : State := (s.closeLine).openLine s.settings.left 0

/-! ## Settings and the Retained Area (R186) -/

/-- A setting is changed and written to the Retained Area in the same event (R186). -/
def State.writeSettings (f : Settings → Settings) (s : State) : State :=
  { s with settings := f s.settings,
           retained := { s.retained with settings := f s.retained.settings } }

/-- The margin limits (R43). -/
def marginsOk (l r : Nat) : Bool := l < r && r ≤ Config.lastPosition && 120 ≤ r - l

/-- A stop takes its ascending place in the list (R44, R180). -/
def insertStop (t : Nat) : List Nat → List Nat
  | [] => [t]
  | u :: us => if t < u then t :: u :: us else u :: insertStop t us

/-- The platen steps of a spacing (R107). -/
def Spacing.steps : Spacing → Int
  | .s8 => 8 | .s12 => 12 | .s16 => 16 | .s20 => 20 | .s24 => 24

end Sys2Proof.Machine
end

