-- ==== Sys2Proof/Machine/Wheels.lean ====
section
/-! DEFINITION. The wheel families and their tables (R100, R101), and the effective pitch (R50). Codes
are given as hexadecimal. -/

namespace Sys2Proof.Machine

/-- The family of a wheel id; ids 0 and 10 to 15 have none (R99, R100). -/
def knownFamily (id : Nat) : Option Nat := if 1 ≤ id && id ≤ 9 then some id else none

/-- The family whose table a wheel id is taken with: family 1 for an id without a family (R99). -/
def familyOf (id : Nat) : Nat := (knownFamily id).getD 1

/-- The lower-case codes the Technical 12 wheel lacks: j, q, v, x, z (R100). -/
def technicalLacks : List Nat := [0x6A, 0x71, 0x76, 0x78, 0x7A]

/-- The petal of a graphic code in the table of a family, or none (R101). -/
def petal (family : Nat) (code : Byte) : Option Nat :=
  if !isGraphic code then none
  else if family = 9 && technicalLacks.contains code.toNat then none
  else if code = 0xA7 then some 94
  else if code = 0xB0 then some 95
  else some (code.toNat - 0x21)

/-- The codes of energy class 0: . , : ; ' ` " - (R101). -/
def classZero : List Nat := [0x2E, 0x2C, 0x3A, 0x3B, 0x27, 0x60, 0x22, 0x2D]

/-- The codes of energy class 1 that are no letters: ! ( ) [ ] the braces / \ | ^ ~ _ * (R101). -/
def classOneSigns : List Nat :=
  [0x21, 0x28, 0x29, 0x5B, 0x5D, 0x7B, 0x7D, 0x2F, 0x5C, 0x7C, 0x5E, 0x7E, 0x5F, 0x2A]

/-- The codes of energy class 3: M W m w @ # % & (R101). -/
def classThree : List Nat := [0x4D, 0x57, 0x6D, 0x77, 0x40, 0x23, 0x25, 0x26]

/-- The energy class of a code in the table of a family; Proportional Heavy takes every code one class
higher, class 3 staying 3 (R101). -/
def energyClass (family : Nat) (code : Byte) : Nat :=
  let n := code.toNat
  let k :=
    if classThree.contains n then 3
    else if classZero.contains n then 0
    else if isLower code || classOneSigns.contains n then 1
    else 2
  if family = 7 then min 3 (k + 1) else k

/-- The codes of 2 width units: i j l . , : ; ' ` ! | (R101). -/
def widthTwo : List Nat :=
  [0x69, 0x6A, 0x6C, 0x2E, 0x2C, 0x3A, 0x3B, 0x27, 0x60, 0x21, 0x7C]

/-- The codes of 3 width units: f r t s I ( ) [ ] - " / \ (R101). -/
def widthThree : List Nat :=
  [0x66, 0x72, 0x74, 0x73, 0x49, 0x28, 0x29, 0x5B, 0x5D, 0x2D, 0x22, 0x2F, 0x5C]

/-- The codes of 6 width units: M W m w @ % (R101). -/
def widthSix : List Nat := [0x4D, 0x57, 0x6D, 0x77, 0x40, 0x25]

/-- The width units of a code in the Proportional Text family (R101). -/
def textUnits (code : Byte) : Nat :=
  let n := code.toNat
  if widthTwo.contains n then 2
  else if widthThree.contains n then 3
  else if widthSix.contains n then 6
  else if isCapital code || n = 0x26 || n = 0x23 then 5
  else 4

/-- The width units of a code in the table of a PS family (R101). -/
def widthUnits (family : Nat) (code : Byte) : Nat :=
  let u := textUnits code
  if family = 6 then (if isCapital code then min 6 (u + 1) else u)
  else if family = 7 then (if u = 2 then 3 else u)
  else u

/-- A PS family (R100). -/
def isPS (family : Nat) : Bool := family = 5 || family = 6 || family = 7

/-- The space units of a PS family (R100). -/
def spaceUnits (family : Nat) : Nat := if family = 5 then 3 else 4

/-- The underscore width of a PS family in carrier steps (R100). -/
def underscoreUnits (family : Nat) : Nat :=
  if family = 5 then 8 else if family = 6 then 10 else 12

/-- The effective pitches (R50). -/
inductive EffPitch where | ps | ten | twelve | fifteen
  deriving DecidableEq, Repr

/-- The native pitch of a fixed-pitch family (R100). -/
def nativePitch (family : Nat) : EffPitch :=
  if family = 2 || family = 4 || family = 9 then .twelve
  else if family = 3 then .fifteen
  else .ten

/-- The effective pitch from the family in force and the pitch setting (R50). -/
def effPitch (family : Nat) (setting : PitchSetting) : EffPitch :=
  if isPS family then .ps
  else match setting with
    | .native => nativePitch family
    | .ten => .ten
    | .twelve => .twelve
    | .fifteen => .fifteen

/-- The unit width f of a fixed pitch in carrier steps (R50); none in PS. -/
def EffPitch.unit : EffPitch → Option Nat
  | .ps => none | .ten => some 12 | .twelve => some 10 | .fifteen => some 8

/-- The escapement of a glyph (R51). -/
def glyphWidth (family : Nat) (p : EffPitch) (code : Byte) : Nat :=
  match p.unit with
  | some f => f
  | none => 2 * widthUnits family code

/-- The space escapement ws (R51). -/
def spaceWidth (family : Nat) (p : EffPitch) : Nat :=
  match p.unit with
  | some f => f
  | none => 2 * spaceUnits family

/-- The underscore width Wu (R58). -/
def underscoreWidth (family : Nat) (p : EffPitch) : Nat :=
  match p.unit with
  | some f => f
  | none => underscoreUnits family

/-- The effective pitch in force (R50, R102). -/
def State.pitch (s : State) : EffPitch := effPitch s.wheel.family s.settings.pitch

/-- The escapement of a glyph by the table and pitch in force (R51). -/
def State.glyphE (s : State) (code : Byte) : Nat := glyphWidth s.wheel.family s.pitch code

/-- The space escapement at the current pitch (R51). -/
def State.spaceE (s : State) : Nat := spaceWidth s.wheel.family s.pitch

/-- The petal of a code in the table in force (R102). -/
def State.petalOf (s : State) (code : Byte) : Option Nat := petal s.wheel.family code

end Sys2Proof.Machine
end

