-- ==== Sys2Proof/Machine/Flags.lean ====
section
/-! DEFINITION. The conditions other meanings test: whether the part is live, the halt conditions and
the halt cause set (R83), the effective spelling mode and the hold (R153, R154), where a release run
stands (R14), and where groups stand (R71, R72). -/

namespace Sys2Proof.Machine

/-- Main power is up and RESET is high: the blocks work (R187). -/
def State.live (s : State) : Bool := s.power.mainUp && !s.power.resetLow

/-! ## Halt conditions (R83) -/

/-- COVER_OPEN is present: the cover is open, or the work of its close has not ended (R83, R109). -/
def Inputs.coverCause (i : Inputs) : Bool := i.cover.qualified || i.coverIdent || i.coverSense

/-- Whether a cause is present and applies to the head entry (R83). -/
def State.causePresent (s : State) : HaltCause → Bool
  | .coverOpen => s.inputs.coverCause
  | .paperOut => s.inputs.paper.qualified
  | .ribbonAbsent => s.ribbon.kind.isNone
  | .ribbonEnd => s.inputs.ribbonEnd.qualified
  | .noWheel => !s.wheel.present || s.seq.liftHeld
  | .tapeAbsent => s.ribbon.tape.isNone && s.strikes.entries.head?.map (·.kind) = some .lift
  | .tapeEnd => s.inputs.tapeEnd.qualified && s.strikes.entries.head?.map (·.kind) = some .lift

/-- The halt cause set formed afresh (R83). -/
def State.causesNow (s : State) : List HaltCause := HaltCause.all.filter s.causePresent

/-! ## Spelling mode and hold (R153, R154) -/

/-- The effective spelling mode: HOLD with DIRECT typing acts as ALERT (R30, R153). -/
def State.effMode (s : State) : SpellMode :=
  match s.settings.spell, s.settings.mode with
  | .hold, .direct => .alert
  | m, _ => m

/-- A record that holds its cells: WAITING or LOOKING, or UNKNOWN and not accepted (R154). -/
def WordRecord.holds (r : WordRecord) : Bool :=
  match r.state with
  | .waiting | .looking => true
  | .unknown => !r.accepted
  | _ => false

/-- The record a cell's word id refers to. -/
def Spelling.record (sp : Spelling) (id : Nat) : Option WordRecord :=
  sp.table.find? fun r => r.id = id

/-- Kinds of cells that make up tokens (R142). -/
def CellKind.inToken : CellKind → Bool
  | .glyph | .gap => true
  | .space | .tab => false

/-- Whether the token at an index is open: no SPACE or TAB stands after it and the end is not closed
(R142). The cell at the index itself is in a token. -/
def openToken (cells : List Cell) (endClosed : Bool) (i : Nat) : Bool :=
  match cells[i]? with
  | some c => c.kind.inToken && !endClosed && (cells.drop i).all (·.kind.inToken)
  | none => false

/-- A PENDING cell is kept back from release while the effective mode is HOLD (R154). -/
def State.keptBack (s : State) (i : Nat) : Bool :=
  match s.line.cells[i]? with
  | none => false
  | some c =>
    s.effMode = .hold && c.state = .pending &&
      ((match c.wordId with
        | some w => ((s.spell.record w).map WordRecord.holds).getD false
        | none => false) ||
       openToken s.line.cells s.spell.endClosed i)

/-- Some word record of the line holds (R34). -/
def State.anyHeldWord (s : State) : Bool := s.spell.table.any WordRecord.holds

/-- Some PENDING cell belongs to a held word (R46). -/
def State.pendingHeldWord (s : State) : Bool :=
  s.line.cells.any fun c => c.state = .pending &&
    (match c.wordId with
      | some w => ((s.spell.record w).map WordRecord.holds).getD false
      | none => false)

/-! ## The line -/

/-- No cell is PENDING. -/
def Line.settled (l : Line) : Bool := l.cells.all fun c => c.state ≠ .pending

/-- The index of the first PENDING cell: where the pending region begins (R7). -/
def Line.firstPending (l : Line) : Nat := l.cells.findIdx fun c => c.state = .pending

/-- The limit of the margin lock: R, or 1560 under margin release (R54). -/
def State.limit (s : State) : Nat :=
  if s.text.marginRelease then Config.rightEnd else s.settings.right

/-- A line that CENTER or FLUSH_RIGHT places as a whole (R37). -/
def Format.isPlaced : Format → Bool
  | .center | .flushRight => true
  | .normal | .justify => false

/-! ## Groups (R71, R72) -/

/-- The head entry's group has begun FIRE: its first entry has left, or the head is fired (R72). -/
def State.headBegun (s : State) : Bool :=
  match s.strikes.entries with
  | e :: _ => !e.first || (s.seq.inFlight.map (·.fired)).getD false
  | [] => false

/-- The entries that refer to a cell. -/
def State.groupOf (s : State) (cell : Nat) : List Entry :=
  s.strikes.entries.filter fun e => e.cell = some cell

/-- The group of a cell has begun FIRE: it stands at the head, begun (R72). -/
def State.cellBegun (s : State) (cell : Nat) : Bool :=
  match s.strikes.entries with
  | e :: _ => e.cell = some cell && s.headBegun
  | [] => false

/-- An entry is in flight at the head: it has begun POSITION (R72, R74). -/
def State.entryBegun (s : State) (id : Nat) : Bool :=
  match s.strikes.entries with
  | e :: _ => e.id = id && s.seq.inFlight.isSome
  | [] => false

/-- The mounted wheel's id while a wheel is present (R96). -/
def State.mounted (s : State) : Option Nat := if s.wheel.present then some s.wheel.id else none

end Sys2Proof.Machine
end

