-- ==== Sys2Proof/Machine/Spelling.lean ====
section
/-! DEFINITION. The Spelling Unit: finding word runs (R142), cancelling and recording words (R143 to
R146), lookups, buckets and verdicts (R147 to R152), the spelling mode (R153), the word keys' targets
(R155) and the User Word List (R157). -/

namespace Sys2Proof.Machine

/-! ## Words in the line (R142) -/

/-- A GLYPH cell whose code meets a test. -/
def Cell.glyphIs (p : Byte → Bool) (c : Cell) : Bool :=
  match c.kind, c.code with
  | .glyph, some b => p b
  | _, _ => false

/-- The word runs of a list of cells as first index and number of cells: `cur` is the run begun, `apos`
whether an apostrophe stands after it (R142). -/
def runsFrom (i : Nat) (cur : Option (Nat × Nat)) (apos : Bool) : List Cell → List (Nat × Nat)
  | [] => cur.toList
  | c :: cs =>
    if c.glyphIs isLetter then
      match cur with
      | none => runsFrom (i + 1) (some (i, 1)) false cs
      | some (st, n) => runsFrom (i + 1) (some (st, if apos then n + 2 else n + 1)) false cs
    else if c.glyphIs isApostrophe && cur.isSome && !apos then runsFrom (i + 1) cur true cs
    else cur.toList ++ runsFrom (i + 1) none false cs

/-- The word runs of the line, left to right (R142). -/
def wordRuns (cells : List Cell) : List (Nat × Nat) := runsFrom 0 none false cells

/-- The codes of the cells of a run. -/
def runCodes (cells : List Cell) (run : Nat × Nat) : List Byte :=
  ((cells.drop run.1).take run.2).filterMap (·.code)

/-- The cell directly before an index. -/
def cellBefore (cells : List Cell) (i : Nat) : Option Cell :=
  if i = 0 then none else cells[i - 1]?

/-- A record of this run is SKIPPED (R143). -/
def skipped (cells : List Cell) (run : Nat × Nat) : Bool :=
  let beside := (cellBefore cells run.1).toList ++ (cells[run.1 + run.2]?).toList
  let codes := runCodes cells run
  decide (Config.longestWord < run.2) ||
    beside.any (fun c => c.glyphIs isDigit || c.kind = .gap) ||
    (decide (run.2 ≤ 5) && codes.all fun b => !isLower b)

/-! ## Cancelling (R145) -/

/-- What the Spelling Unit sees of a cell. -/
def Cell.seen (c : Cell) : Nat × CellKind × Option Byte := (c.id, c.kind, c.code)

/-- A cell that cancels a record it comes to stand beside (R145). -/
def Cell.disturbs (c : Cell) : Bool :=
  c.kind = .gap || c.glyphIs fun b => isLetter b || isApostrophe b || isDigit b

/-- A cell that cancels has come beside a record at a place: a GAP in any way; a letter, an apostrophe or
a digit by an append, an insertion or a change, so that it did not stand so in the line before (R145; log
entry 44). -/
def cameBeside (before : List Cell) (old new : Option Cell) : Bool :=
  match new with
  | none => false
  | some c => c.disturbs &&
      (if c.kind = .gap then old.map Cell.seen != some c.seen
        else !(before.map Cell.seen).contains c.seen)

/-- The record stands after an event: its cells are as they were, still together, and nothing that
cancels it has come beside them (R145). -/
def recordStands (before after : List Cell) (r : WordRecord) : Bool :=
  match cellIndex r.first before, cellIndex r.first after with
  | some i, some j =>
    ((before.drop i).take r.count).map Cell.seen = ((after.drop j).take r.count).map Cell.seen &&
      !cameBeside before (cellBefore before i) (cellBefore after j) &&
      !cameBeside before before[i + r.count]? after[j + r.count]?
  | _, _ => false

/-- The word ids of a list of records are cleared from their cells. -/
def clearWordIds (ids : List Nat) (cells : List Cell) : List Cell :=
  cells.map fun c => if (c.wordId.map ids.contains).getD false then { c with wordId := none } else c

/-- A record is cancelled: it leaves the table, its cells' word ids are cleared, its Lookup Queue entry
is removed or its lookup dropped, and its message goes (R145). -/
def State.cancelRecord (r : WordRecord) (s : State) : State :=
  let s := { s with
    line := { s.line with cells := clearWordIds [r.id] s.line.cells },
    spell := { s.spell with
      table := s.spell.table.filter (·.id ≠ r.id),
      lookups := s.spell.lookups.filter (·.id ≠ r.id),
      lookup := s.spell.lookup.map fun l =>
        if l.id = r.id && r.state = .looking then { l with dropped := true } else l } }
  if r.state = .unknown then s.dropWordMessage r.id else s

/-- Every record that an event breaks is cancelled (R143, R145). -/
def State.cancelBroken (before : List Cell) (s : State) : State :=
  (s.spell.table.filter fun r => !recordStands before s.line.cells r).foldl
    (fun s r => s.cancelRecord r) s

/-! ## Lookups (R147, R149, R150) -/

/-- The bucket hash A of a word (R149). -/
def hashA (letters : List Nat) : Nat := letters.foldl (fun a c => (a * 31 + c) % 65536) 0

/-- The signature of a word (R149). -/
def signature (letters : List Nat) : Nat :=
  letters.foldl (fun a c => (a * 7 + c) % 2048) letters.length * 32 + letters.length

/-- The status of a ROM. -/
def Spelling.status (sp : Spelling) : Rom → DictStatus
  | .main => sp.main
  | .supplement => sp.supplement

/-- The bucket count of a ROM, absent where it is not PRESENT. -/
def DictStatus.count : DictStatus → Option Nat
  | .present n => some n
  | _ => none

/-- The select the Dictionary Port asserts while a read is in progress (R151). -/
def DictPort.select : DictPort → Option Rom
  | .idle => none
  | .header rom => some rom
  | .bucket rom _ => some rom

/-- The address of a read: 0 for a header, 16 + 32 × b for bucket b (R150, R151). -/
def DictPort.address : DictPort → Option Nat
  | .idle => none
  | .header _ => some 0
  | .bucket _ b => some (16 + 32 * b)

/-- The bytes the port sends for a read: the command byte 0x03 and the 24-bit address, high byte first
(R151, R185). -/
def DictPort.sends (p : DictPort) : List Byte :=
  match p.address with
  | none => []
  | some a => [0x03, byteOf (a / 65536), byteOf (a / 256), byteOf a]

/-- How many bytes the read in progress takes in: 16 of a header, 32 of a bucket (R151). -/
def DictPort.takes : DictPort → Option Nat
  | .idle => none
  | .header _ => some 16
  | .bucket _ _ => some 32

/-- A search of a ROM begins with the bucket of the word's hash (R149, R150). -/
def Spelling.searchRom (sp : Spelling) (l : Lookup) (rom : Rom) (bcount : Nat) : Spelling :=
  { sp with lookup := some { l with rom := rom, reads := 0 },
            port := .bucket rom (hashA l.letters % bcount) }

/-- A record's state changes. -/
def Spelling.setRecord (sp : Spelling) (id : Nat) (st : WordState) : Spelling :=
  { sp with table := sp.table.map fun r => if r.id = id then { r with state := st } else r }

/-- When the port is idle and the Lookup Queue is not empty, its head becomes the lookup in progress
and its record goes to LOOKING (R147). -/
def Spelling.startLookup (sp : Spelling) : Spelling :=
  match sp.port, sp.lookup, sp.lookups with
  | .idle, none, e :: rest =>
    (({ sp with lookups := rest }).setRecord e.id .looking).searchRom
      ⟨e.id, e.letters, false, .main, 0⟩ .main (sp.main.count.getD 1)
  | _, _, _ => sp

/-! ## Recording (R143, R146) -/

/-- An id is held by a record, a Lookup Queue entry or the lookup in progress (R143). -/
def Spelling.idHeld (sp : Spelling) (id : Nat) : Bool :=
  sp.table.any (·.id = id) || sp.lookups.any (·.id = id) ||
    (sp.lookup.map (fun l => decide (l.id = id))).getD false

/-- The next id in rotation that is not held (R143). -/
def Spelling.freeId (sp : Spelling) : Nat → Nat → Nat
  | 0, n => n
  | f + 1, n => if sp.idHeld n then sp.freeId f ((n + 1) % 256) else n

/-- The codes of a record's cells as typed, up to 24 (R148). -/
def State.typedCodes (s : State) (r : WordRecord) : List Byte :=
  match cellIndex r.first s.line.cells with
  | some i => (runCodes s.line.cells (i, r.count)).take Config.longestWord
  | none => []

/-- A SPELL notice with its reason, word id and codes (R148, R185). -/
def State.raiseSpell (reason : Nat) (r : WordRecord) (s : State) : State :=
  s.raise .spell (byteOf reason :: byteOf r.id :: s.typedCodes r)

/-- The first path of R146's table that applies to a new record; true where the Lookup Queue is full. -/
def State.firstPath (s : State) (skip : Bool) (letters : List Nat) : WordState × Bool :=
  if skip then (.skipped, false)
  else if s.retained.words.contains letters then (.known, false)
  else if s.spell.main = .absent then (.unchecked, false)
  else if Config.lookupPlaces ≤ s.spell.lookups.length then (.unchecked, true)
  else (.waiting, false)

/-- One word run is recorded (R143, R146). The table keeps line order (R144). With the port idle its entry
leaves for its lookup at once, before the next run of the event is judged by R146 (R147; log entry 52). The
table has no bound here: words that a removal has brought side by side both keep their records (log entry
44), so that more than the 53 of R144, and more than its 64, may stand, and none is refused (the model's
choice, log entry 57). -/
def State.recordRun (run : Nat × Nat) (s : State) : State :=
  match s.line.cells[run.1]? with
  | none => s
  | some head =>
    let id := s.spell.freeId 256 s.spell.nextId
    let skip := skipped s.line.cells run
    let letters := (foldCodes (runCodes s.line.cells run)).getD []
    let path := s.firstPath skip letters
    let r : WordRecord :=
      { id := id, first := head.id, count := run.2,
        letters := if Config.longestWord < run.2 then none else some letters,
        state := path.1, accepted := false }
    let earlier (q : WordRecord) : Bool :=
      match cellIndex q.first s.line.cells with | some i => i < run.1 | none => true
    let numbered := s.line.cells.mapIdx fun i c =>
      if run.1 ≤ i && i < run.1 + run.2 then { c with wordId := some id } else c
    let s := { s with
      line := { s.line with cells := numbered },
      spell := { s.spell with
        table := s.spell.table.filter earlier ++ r :: s.spell.table.filter fun q => !earlier q,
        nextId := (id + 1) % 256 } }
    if path.2 then s.raiseSpell 1 r
    else if path.1 = .waiting then
      { s with spell :=
          ({ s.spell with lookups := s.spell.lookups ++ [⟨id, letters⟩] } : Spelling).startLookup }
    else s

/-- A run is covered by a standing record: one of its cells bears a record's word id (R143; log entry
22). -/
def State.covered (s : State) (run : Nat × Nat) : Bool :=
  ((s.line.cells.drop run.1).take run.2).any fun c => c.wordId.isSome

/-- Every word run of a closed token that no record covers, of 2 cells or more, is recorded, from the left
(R143; log entry 52). -/
def State.recordAll (s : State) : State :=
  ((wordRuns s.line.cells).filter fun run =>
    decide (2 ≤ run.2) && !openToken s.line.cells s.spell.endClosed run.1 && !s.covered run).foldl
      (fun s run => s.recordRun run) s

/-- The Spelling Unit acts once on an event's cell reports: it cancels, then records (R143). In OFF it
makes no records (R153). -/
def State.spellingStep (before : List Cell) (closedBefore : Bool) (s : State) : State :=
  if s.settings.spell = .off ||
      (before.map Cell.seen = s.line.cells.map Cell.seen && closedBefore = s.spell.endClosed) then s
  else (s.cancelBroken before).recordAll

/-! ## Verdicts (R147, R148) -/

/-- A cell of the record is kept back (R154). -/
def State.recordKept (s : State) (r : WordRecord) : Bool :=
  (List.range s.line.cells.length).any fun i =>
    (s.line.cells[i]?.map fun c => decide (c.wordId = some r.id)).getD false && s.keptBack i

/-- The text of the "? word" message. -/
def State.wordText (s : State) (r : WordRecord) : List Byte := ascii "? " ++ s.typedCodes r

/-- The result of a lookup that was not dropped is given and delivered (R147, R148). -/
def State.verdict (l : Lookup) (found : Bool) (s : State) : State :=
  if found || s.retained.words.contains l.letters then
    { s with spell := s.spell.setRecord l.id .known }
  else
    let s := { s with spell := s.spell.setRecord l.id .unknown }
    match s.spell.record l.id with
    | none => s
    | some r =>
      let s := (s.requestTone .spell false).raiseSpell 0 r
      if s.effMode = .hold && s.recordKept r then s
      else s.putMessage (s.wordText r) (some r.id)

/-- The search of a lookup ends: its result is given unless it was dropped, the lookup is removed, the
port becomes idle, and the next entry starts (R147). -/
def State.endLookup (l : Lookup) (found : Bool) (s : State) : State :=
  let s := if l.dropped then s else s.verdict l found
  { s with spell := ({ s.spell with lookup := none, port := .idle }).startLookup }

/-- The fifteen slots of a bucket and its continuation index (R150). -/
def bucketWords (data : List Byte) : List Nat := (wides data).getD []

/-- What the slots of a bucket say of a signature. -/
inductive SlotResult where | found | stop | full
  deriving DecidableEq, Repr

/-- The slots are compared in order (R150). -/
def searchSlots (sig : Nat) : List Nat → SlotResult
  | [] => .full
  | w :: ws => if w = sig then .found else if w = 0xFFFF then .stop else searchSlots sig ws

/-- The number of a dictionary status (R185). -/
def DictStatus.number : DictStatus → Nat
  | .notRead => 0 | .absent => 1 | .present _ => 2

/-- A DICT notice with its cause, the two statuses and the FORMAT flags (R150, R152, R185). -/
def State.raiseDict (cause : Nat) (main supp : Bool) (s : State) : State :=
  s.raise .dict [byteOf cause, byteOf s.spell.main.number, byteOf s.spell.supplement.number,
    byteOf (bit main + 2 * bit supp)]

/-- The main ROM did not find the word: a PRESENT supplement is searched, else the result is given
(R147). -/
def State.romEnded (l : Lookup) (rom : Rom) (found : Bool) (s : State) : State :=
  match rom, found, s.spell.supplement.count with
  | .main, false, some n => { s with spell := s.spell.searchRom l .supplement n }
  | _, _, _ => s.endLookup l found

/-- A bucket has been read (R150). A broken chain raises one DICT notice for the ROM it stands in, so a
lookup that meets one in each ROM raises two (log entry 46). -/
def State.bucketRead (rom : Rom) (data : List Byte) (s : State) : State :=
  match s.spell.lookup with
  | none => { s with spell := ({ s.spell with port := .idle }).startLookup }
  | some l =>
    let words := bucketWords data
    let l := { l with reads := l.reads + 1 }
    match searchSlots (signature l.letters) (words.take 15) with
    | .found => s.romEnded l rom true
    | .stop => s.romEnded l rom false
    | .full =>
      let next := words.getD 15 0xFFFF
      if next = 0xFFFF then s.romEnded l rom false
      else if (s.spell.status rom).count.getD 0 ≤ next then
        let s := if l.dropped then s else s.raiseDict 1 (rom = .main) (rom = .supplement)
        s.romEnded l rom false
      else if 4 ≤ l.reads then s.romEnded l rom false
      else { s with spell := { s.spell with lookup := some l, port := .bucket rom next } }

/-- The status a header gives, and whether its FORMAT flag is set (R152). -/
def headerStatus (data : List Byte) : DictStatus × Bool :=
  if data.take 4 = [0x4E, 0x44, 0x58, 0x31] then
    match data[4]? with
    | some x => if 8 ≤ x.toNat && x.toNat ≤ 13 then (.present (2 ^ x.toNat), false) else (.absent, true)
    | none => (.absent, true)
  else (.absent, false)

/-- A header has been read: the main ROM's is followed by the supplement's, and after both one DICT
notice is raised (R152). -/
def State.headerRead (rom : Rom) (data : List Byte) (s : State) : State :=
  let res := headerStatus data
  match rom with
  | .main => { s with spell := { s.spell with
      main := res.1, mainFormat := res.2, port := .header .supplement } }
  | .supplement =>
    let s := { s with spell := { s.spell with
      supplement := res.1, suppFormat := res.2, port := .idle } }
    let s := s.raiseDict 0 s.spell.mainFormat s.spell.suppFormat
    { s with spell := s.spell.startLookup }

/-! ## Modes (R153) -/

/-- Every record is discarded as at a line close, and a "? word" message is removed (R153). -/
def State.discardRecords (s : State) : State :=
  ({ s with
    line := { s.line with cells := s.line.cells.map fun c => { c with wordId := none } },
    spell := { s.spell with
      table := [], lookups := [],
      lookup := s.spell.lookup.map fun l => { l with dropped := true } } } : State).dropAnyWordMessage

/-- A change of spelling mode takes effect (R153). -/
def State.spellModeChanged (old : SpellMode) (s : State) : State :=
  match old, s.settings.spell with
  | .off, .off => s
  | _, .off => s.discardRecords
  | .off, _ => s.recordAll
  | _, _ => s

/-! ## Accepting and adding (R155 to R157) -/

/-- A record that ACCEPT_WORD may take: UNKNOWN and not accepted. -/
def WordRecord.openWord (r : WordRecord) : Bool := r.state = .unknown && !r.accepted

/-- The target of ACCEPT_WORD and ADD_WORD (R155). -/
def State.wordTarget (s : State) : Option WordRecord :=
  let last := (s.spell.table.filter WordRecord.openWord).getLast?
  match s.effMode with
  | .off => none
  | .alert => last
  | .hold =>
    match s.spell.table.find? fun r => r.openWord && s.recordKept r with
    | some r => some r
    | none => last

/-- A record's accepted flag is set and its message removed (R155). -/
def State.accept (r : WordRecord) (s : State) : State :=
  ({ s with spell := { s.spell with
      table := s.spell.table.map fun q => if q.id = r.id then { q with accepted := true } else q }
    } : State).dropWordMessage r.id

/-- The User Word List is changed in the Retained Area (R157). -/
def State.setWords (ws : List (List Nat)) (s : State) : State :=
  { s with retained := { s.retained with words := ws } }

/-- The effect of ADD_WORD on its target (R156). A word that stands in a full list is already in the list
(log entry 53). -/
def State.addTarget (r : WordRecord) (s : State) : State :=
  let letters := r.letters.getD []
  let s :=
    if s.retained.words.contains letters then s
    else if Config.wordPlaces ≤ s.retained.words.length then s.click.raiseSpell 2 r
    else s.setWords (s.retained.words ++ [letters])
  ((s.spell.table.filter fun q => q.openWord && (q.id = r.id || q.letters = r.letters))).foldl
    (fun s q => s.accept q) s

end Sys2Proof.Machine
end

