-- ==== Sys2Proof/Machine/Placement.lean ====
section
/-! DEFINITION. The Placement Unit: tab stops (R52), re-placement (R55, R61), fit (R56), whole-line
placement (R63 to R65) and justification (R66, R67). -/

namespace Sys2Proof.Machine

/-- The first tab stop right of x that meets the limit: R, or 1559 under margin release (R52). -/
def State.findStop (s : State) (x : Nat) : Option Nat :=
  let limit := if s.text.marginRelease then Config.lastPosition else s.settings.right
  s.settings.tabs.find? fun t => decide (x < t) && decide (t ≤ limit)

/-- The sum of escapements. -/
def width (cs : List Cell) : Nat := (cs.map (·.e)).sum

/-- The cells after a TAB cell: those of its aligned run (R60). -/
def runCells (tabCell : Nat) : List Cell → List Cell
  | [] => []
  | c :: cs => if c.id = tabCell then cs else runCells tabCell cs

/-- The stop of the open aligned run, where the cell is the TAB that opened it (R60). -/
def Cell.openStop (al : Option Aligned) (c : Cell) : Option Nat :=
  al.bind fun a => if a.tabCell = c.id then some a.stop else none

/-- The escapement of a cell re-placed at x: a TAB holds its end, the TAB of an open aligned run of width
`w` takes max(0, t − x − w), and any other cell keeps its own (R55, R61). -/
def Cell.placedE (al : Option Aligned) (w x : Nat) (c : Cell) : Nat :=
  match c.kind with
  | .tab => match c.openStop al with
    | some t => t - x - w
    | none => c.x + c.e - x
  | _ => c.e

/-- A TAB moved to x could no longer reach its stop: it would pass its end or, the TAB of an open aligned
run, be pushed past its stop. One that a wheel change left past its stop stays where it is (R55, R61). -/
def Cell.passes (al : Option Aligned) (x : Nat) (c : Cell) : Bool :=
  c.kind = .tab && decide (max c.x ((c.openStop al).getD (c.x + c.e)) < x)

/-- Re-placement of cells from x: each takes the place where the cell before it ends; none where a TAB
could no longer reach its stop (R55). -/
def placeFrom (al : Option Aligned) (w x : Nat) : List Cell → Option (List Cell)
  | [] => some []
  | c :: cs =>
    if c.passes al x then none
    else
      let e := c.placedE al w x
      (placeFrom al w (x + e) cs).map ({ c with x := x, e := e } :: ·)

/-- The released region of the line (R7). -/
def Line.released (l : Line) : List Cell := l.cells.takeWhile fun c => c.state ≠ .pending

/-- The pending region of the line (R7). -/
def Line.tail (l : Line) : List Cell := l.cells.dropWhile fun c => c.state ≠ .pending

/-- Where the pending region begins on the paper. -/
def Line.tailStart (l : Line) : Nat := ({ l with cells := l.released } : Line).endPos

/-- The escapements of the cells that are no TAB. -/
def plainWidth (e : Cell → Nat) (cs : List Cell) : Nat := ((cs.filter fun c => c.kind ≠ .tab).map e).sum

/-- The end that the TABs among some cells hold: the farthest end of a TAB with what follows it, the later
TABs pushed together; 0 with no TAB. -/
def tabReach (e : Cell → Nat) : List Cell → Nat
  | [] => 0
  | c :: cs =>
    max (if c.kind = .tab then c.x + c.e + plainWidth e cs else 0) (tabReach e cs)

/-- What the open aligned run takes of the way to its stop t, so that the escapement max(0, t − x − W) of
R61 comes out of the widths W after the re-placement: the width of the run, or all of the way where a TAB
inserted in the run holds its end and so brings the end to t or beyond (R55, R60, R61; log entry 50). -/
def runWidth (al : Option Aligned) (e : Cell → Nat) (cells : List Cell) : Nat :=
  match al with
  | some a =>
    let run := runCells a.tabCell cells
    if a.stop ≤ tabReach e run then a.stop else plainWidth e run
  | none => 0

/-- The cells of the line after re-placement of its PENDING cells; none where R55 does not allow it. -/
def rechain (al : Option Aligned) (l : Line) : Option (List Cell) :=
  (placeFrom al (runWidth al (·.e) l.cells) l.tailStart l.tail).map (l.released ++ ·)

/-- The line with other cells. -/
def State.setCells (cs : List Cell) (s : State) : State :=
  { s with line := { s.line with cells := cs } }

/-- A cell's new escapement from the wheel and pitch in force (R51, R105). -/
def State.freshE (s : State) (c : Cell) : Nat :=
  match c.kind with
  | .glyph => s.glyphE (c.code.getD 0)
  | .space => s.spaceE
  | .tab | .gap => c.e

/-- Re-placement from x with the escapements of the wheel in force: a TAB takes T − x, or 0 when x has
passed T, and the TAB of an open aligned run takes its escapement by R61 (R105). -/
def placeWheel (s : State) (w x : Nat) : List Cell → List Cell
  | [] => []
  | c :: cs =>
    let e := match c.kind with
      | .tab => c.placedE s.text.aligned w x
      | _ => s.freshE c
    { c with x := x, e := e } :: placeWheel s w (x + e) cs

/-- The margin bell: when the end position has moved right into the zone from R − 48 to R and the bell
flag is clear, BELL is requested and the flag is set (R45). -/
def State.bellAfter (endBefore : Nat) (s : State) : State :=
  let e := s.line.endPos
  if endBefore < e && s.settings.right - Config.bellZone ≤ e && e ≤ s.settings.right &&
      !s.text.bell then
    { s.requestTone .bell false with text := { s.text with bell := true } }
  else s

/-- A glyph fits a cell whose width is fixed (R56). -/
def State.fits (s : State) (code : Byte) (e : Nat) : Bool :=
  match s.pitch with
  | .ps => s.glyphE code ≤ e
  | _ => s.glyphE code = e

/-! ## Whole lines (R63 to R67) -/

/-- The trailing SPACE cells leave the record one by one from the right (R63). -/
def State.dropTrailing : Nat → State → State
  | 0, s => s
  | f + 1, s =>
    match s.line.cells.getLast? with
    | some c =>
      if c.kind = .space then (s.removeCell (s.line.cells.length - 1)).dropTrailing f else s
    | none => s

/-- The trailing SPACE cells of a line that a wrap justifies leave the record. The token that one of them
closed stays closed: the whole line is being released (R66, R142; log entry 20). -/
def State.dropClosing (s : State) : State :=
  let t := s.dropTrailing s.line.cells.length
  if t.line.cells.length < s.line.cells.length then
    { t with spell := { t.spell with endClosed := true } }
  else t

/-- Every x from a new line start, escapements kept (R63). -/
def chainFrom (x : Nat) : List Cell → List Cell
  | [] => []
  | c :: cs => { c with x := x } :: chainFrom (x + c.e) cs

/-- The start of a centred line of width N (R64). -/
def centerStart (l r n : Nat) : Nat := if n ≤ r - l then l + (r - l - n) / 2 else l

/-- The start of a flush-right line of width N (R65). -/
def flushStart (l r n : Nat) : Nat := if l + n ≤ r then r - n else l

/-- The line placed as a whole from the margins in force, when its format is CENTER or FLUSH_RIGHT and
no cell of it has been released (R63 to R65; log entry 19). -/
def State.placeWhole (s : State) : State :=
  if s.line.format.isPlaced && s.line.cells.all (fun c => c.state = .pending) then
    let s := s.dropTrailing s.line.cells.length
    let n := width s.line.cells
    let l := s.settings.left
    let r := s.settings.right
    let start := if s.line.format = .center then centerStart l r n else flushStart l r n
    let start := if Config.rightEnd < start + n then Config.rightEnd - n else start
    { s with line := { s.line with start := start, cells := chainFrom start s.line.cells } }
  else s

/-- The index after the last TAB cell: where the segment begins (R66). -/
def segmentStart (cells : List Cell) : Nat :=
  cells.length - (cells.reverse.takeWhile fun c => c.kind ≠ .tab).length

/-- Whether the cell at an index is a gap of the segment: a SPACE strictly between the segment's first
and last GLYPH (R66). -/
def isJustGap (cells : List Cell) (i : Nat) : Bool :=
  let from' := segmentStart cells
  (match cells[i]? with | some c => c.kind = .space | none => false) && from' ≤ i &&
    ((cells.take i).drop from').any (fun c => c.kind = .glyph) &&
    (cells.drop (i + 1)).any (fun c => c.kind = .glyph)

/-- The slack spread over the gaps from the left: each gets `each`, the first `more` one step more
(R67). -/
def spread (gap : Nat → Bool) (each : Nat) : Nat → Nat → List Cell → List Cell
  | _, _, [] => []
  | i, more, c :: cs =>
    if gap i then
      { c with e := c.e + each + (if more = 0 then 0 else 1) } ::
        spread gap each (i + 1) (more - 1) cs
    else c :: spread gap each (i + 1) more cs

/-- Justification of a line that a wrap in LINE typing ends (R66, R67). Of a line whose cells are not all
PENDING nothing is touched, its trailing SPACE cells too: whether R63 removes them there is open, and that
it does not is the model's choice (log entry 59). -/
def State.justify (s : State) : State :=
  if s.settings.mode = .line && s.line.format = .justify && s.line.wrapped &&
      s.line.cells.all (fun c => c.state = .pending) then
    let s := s.dropClosing
    let cells := s.line.cells
    let gaps := ((List.range cells.length).filter (isJustGap cells)).length
    let fin := s.line.endPos
    if s.settings.right < fin || gaps = 0 then s
    else
      let slack := s.settings.right - fin
      if 2 * gaps * s.spaceE < slack then s.raiseLooseLine slack gaps
      else s.setCells (chainFrom s.line.start
        (spread (isJustGap cells) (slack / gaps) 0 (slack % gaps) cells))
  else s

end Sys2Proof.Machine
end

