-- ==== Sys2Proof/Machine/Strikes.lean ====
section
/-! DEFINITION. Strike plans and the entries of keys: targets (R59), underscores (R58), energies (R111
to R113), release, fill and overstrike groups (R57), LIFT groups (R131) and motion entries (R33, R40,
R46, R47). -/

namespace Sys2Proof.Machine

/-- The carrier target of a logical position, the trim added and clamped to 0 to 1559 (R59). -/
def target (x : Nat) (trim : Int) : Nat :=
  (max 0 (min (Config.lastPosition : Int) ((x : Int) + trim))).toNat

/-- The carrier target by the PRINT_OFFSET trim in force (R59). -/
def State.targetOf (s : State) (x : Nat) : Nat := target x s.retained.printOffset

/-- Strikes at x + j × Wu for j below the count. -/
def regularStrikes (x wu : Nat) (count : Nat) : List Nat :=
  (List.range count).map fun j => x + j * wu

/-- The positions of a cell's underscores (R58). -/
def underscoreXs (x e wu : Nat) : List Nat :=
  if e < wu then [x]
  else regularStrikes x wu ((e + wu - 1) / wu - 1) ++ [x + e - wu]

/-- The base energy B of a class (R111). -/
def baseEnergy (k : Nat) : Int := 6 + 3 * k

/-- The ribbon term (R111). -/
def ribbonTerm : Option RibbonKind → Int
  | some .fabric => 2 | some .film => 0 | some .multi => 1 | none => 0

/-- The energy index E of a class, an impression, a ribbon and a trim (R111). -/
def energyIndex (k p : Nat) (ribbon : Option RibbonKind) (trim : Int) : Nat :=
  (max 1 (min 31 (baseEnergy k + 3 * ((p : Int) - 3) + ribbonTerm ribbon + trim))).toNat

/-- The energy index of a code struck now (R111). -/
def State.energyOf (s : State) (code : Byte) : Nat :=
  energyIndex (energyClass s.wheel.family code) s.settings.impression s.ribbon.kind
    s.retained.impression

/-- The bold strike's index: two less, at least 1 (R112). -/
def boldEnergy (e : Nat) : Nat := max 1 (e - 2)

/-- The code of the underscore. -/
def underscoreCode : Byte := 0x5F

/-- One striking entry for a cell (R57, R69). -/
def State.strike (s : State) (kind : EntryKind) (c : Cell) (x energy : Nat) (code : Byte) : Entry :=
  { Entry.plain kind with
    x := some (s.targetOf x), voff := some c.voff, petal := some ((s.petalOf code).getD 0),
    energy := some energy, width := some c.e, wheelId := some s.wheel.id, cell := some c.id }

/-- A glyph at x and, when the cell is bold, once more at x + 1 with the lighter index (R57, R112). -/
def State.glyphStrikes (s : State) (kind : EntryKind) (c : Cell) (code : Byte) : List Entry :=
  s.strike kind c c.x (s.energyOf code) code ::
    (if c.bold then [s.strike kind c (c.x + 1) (boldEnergy (s.energyOf code)) code] else [])

/-- The underscore positions of a cell at the pitch in force (R58). -/
def State.underscoresOf (s : State) (c : Cell) : List Nat :=
  underscoreXs c.x c.e (underscoreWidth s.wheel.family s.pitch)

/-- The underscores of an underlined cell (R57, R112). -/
def State.underStrikes (s : State) (c : Cell) : List Entry :=
  if c.underline then
    (s.underscoresOf c).map fun x =>
      s.strike .underscore c x (s.energyOf underscoreCode) underscoreCode
  else []

/-- The plan of a release group or a gap-fill group (R57). -/
def State.releasePlan (s : State) (c : Cell) : List Entry :=
  match c.kind with
  | .glyph => s.glyphStrikes .print c (c.code.getD 0) ++ s.underStrikes c
  | .space => s.underStrikes c
  | .tab | .gap => []

/-- The strike energy index a release or fill group records in its cell: that of the base, or of the
underscores of a SPACE (R112). -/
def State.recordedEnergy (s : State) (c : Cell) : Nat :=
  match c.kind with
  | .glyph => s.energyOf (c.code.getD 0)
  | _ => s.energyOf underscoreCode

/-- The plan of an overstrike group (R57). -/
def State.overPlan (s : State) (c : Cell) (code : Byte) : List Entry :=
  s.glyphStrikes .overprint c code

/-- The energy index of every entry of a LIFT group (R113). -/
def liftEnergy (tape : Option TapeKind) (recorded : Nat) : Nat :=
  match tape with
  | some .coverTape => recorded
  | _ => min 31 (recorded + 4)

/-- One LIFT entry (R131). -/
def State.liftStrike (s : State) (c : Cell) (x : Nat) (code : Byte) : Entry :=
  { s.strike .lift c x (liftEnergy s.ribbon.tape (c.energy.getD 1)) code with
    wheelId := some (c.wheelId.getD 0) }

/-- The LIFT group of a cell with ink on paper (R131). -/
def State.liftPlan (s : State) (c : Cell) : List Entry :=
  let glyphs (code : Byte) :=
    s.liftStrike c c.x code :: (if c.bold then [s.liftStrike c (c.x + 1) code] else [])
  let unders :=
    if c.underline then (s.underscoresOf c).map fun x => s.liftStrike c x underscoreCode else []
  match c.kind with
  | .glyph => if c.glyphs = 2 then glyphs (c.overCode.getD 0) else glyphs (c.code.getD 0) ++ unders
  | _ => unders

/-! ## Motion entries (R69, R70) -/

/-- A MOVE to a logical position (R40, R41). -/
def State.moveEntry (s : State) (x : Nat) : Entry :=
  { Entry.plain .move with x := some (s.targetOf x) }

/-- A FEED with its amount and offset after (R69). -/
def feedEntry (amount offsetAfter : Int) : Entry :=
  { Entry.plain .feed with feed := some amount, offsetAfter := some offsetAfter }

/-- The feed of a RETURN: the spacing's steps less v (R33). -/
def State.returnAmount (s : State) : Int := s.settings.spacing.steps - s.line.v

/-- The RETURN entry (R33). -/
def State.returnEntry (s : State) : Entry :=
  { Entry.plain .ret with x := some (s.targetOf s.settings.left), feed := some s.returnAmount }

end Sys2Proof.Machine
end

