-- ==== Sys2Proof/Machine/Runs.lean ====
section
/-! DEFINITION. Release runs (R8, R14, R15), the end of a line (R16, R33) and the second part of an
auto-wrap (R35). -/

namespace Sys2Proof.Machine

/-! ## Where a run stands (R14) -/

/-- Where a release run stands: none in progress, blocked by the hold, waiting for room, or able to
take a step or act by its ending. -/
inductive RunStatus where | absent | blocked | waiting | ready
  deriving DecidableEq, Repr

/-- The status of the run in progress (R14, R15). The run of a wrap that R34 let pass in HOLD is not
blocked (R35); one that waits for room while the mode becomes HOLD is judged by R154 like any other (R153;
log entry 20). -/
def State.runStatus (s : State) : RunStatus :=
  match s.line.run with
  | none => .absent
  | some r =>
    let i := s.line.firstPending
    match s.line.cells[i]? with
    | some c =>
      if i < r.b then
        if s.keptBack i then .blocked
        else if (s.releasePlan c).length ≤ s.strikeFree then .ready else .waiting
      else if r.ending = .none || 1 ≤ s.strikeFree then .ready else .waiting
    | none => if r.ending = .none || 1 ≤ s.strikeFree then .ready else .waiting

/-! ## Releasing a cell (R8) -/

/-- The first PENDING cell is released: QUEUED with its group appended and its wheel id and energy
index recorded, or STRUCK where its plan is empty (R8, R112). A step of a run that was waiting is an event
of R23. -/
def State.releaseCell (c : Cell) (s : State) : State :=
  let plan := s.releasePlan c
  let s' :=
    if plan.isEmpty then s.mapCell c.id fun c => { c with state := .struck, glyphs := 0 }
    else (s.appendGroup plan).mapCell c.id fun c =>
      { c with state := .queued, wheelId := some s.wheel.id, energy := some (s.recordedEnergy c) }
  if s.text.runWaits then s'.noteR23 else s'

/-! ## The wrap carry (R35) -/

/-- A CELL_DROPPED notice with its cause and code (R185). -/
def State.raiseDropped (cause : Nat) (code : Byte) (s : State) : State :=
  s.raise .cellDropped [byteOf cause, code]

/-- The code a dropped cell is reported with: 0x20 for a SPACE and 0x1A for a TAB (R105). -/
def Cell.dropCode (c : Cell) : Byte :=
  match c.kind with
  | .space => 0x20
  | .tab => 0x1A
  | _ => c.code.getD 0x20

/-- One cell of the carry is appended to the new record, placed by the wheel in force, or dropped when
its code is not on the wheel (R35) or it would pass 1560 (log entry 33). The bell is judged at each cell
(R45; log entry 51). -/
def State.appendCarry (c : Cell) (s : State) : State :=
  if c.kind = .glyph && (s.petalOf (c.code.getD 0)).isNone then s.raiseDropped 0 c.dropCode
  else
    let x := s.line.endPos
    let e := s.freshE c
    if Config.rightEnd < x + e then s.raiseDropped 1 c.dropCode
    else
      (s.insertCell s.line.cells.length
        { c with x := x, e := e, state := .pending, wordId := none }).bellAfter x

/-- The carry is appended in order and the cursor stands at the end (R35). -/
def State.appendAllCarry (s : State) : State :=
  let s := s.text.carry.foldl (fun s c => s.appendCarry c) s
  ({ s with text := { s.text with carry := [] } } : State).setCursor s.line.cells.length

/-! ## The end of a run (R15, R16, R33, R35) -/

/-- The run ends. -/
def State.endRun (s : State) : State :=
  ({ s with line := { s.line with run := none } } : State).noteR23

/-- The RETURN ending: the RETURN entry is appended and the line is RETURNED, with the offset and the
feed it was ended with; v becomes 0 (R15, R16, R138). -/
def State.returnEnding (s : State) : State :=
  let t := s.appendGroup [s.returnEntry]
  ({ t with line := { t.line with
      state := .returned, baselineOff := some s.line.v, returnFeed := some s.returnAmount,
      returnId := some s.strikes.nextId, v := 0 } } : State).endRun

/-- The WRAP ending: the RETURN entry is appended, the line is closed, a new one is opened at L and the
carry is appended to it (R15, R35). An erase held while the run was blocked stays held, its stop index
unchanged, and goes on over the carry on the new line: R137 names no close of the line as its end (the
model's choice, log entry 20). -/
def State.wrapEnding (s : State) : State :=
  ((s.appendGroup [s.returnEntry]).endRun).nextLine.appendAllCarry

/-- One step of a run that can go on: the first PENDING cell below b is released, or the run acts by
its ending (R14, R15). -/
def State.runStep (r : Run) (s : State) : State :=
  let i := s.line.firstPending
  match (if i < r.b then s.line.cells[i]? else none) with
  | some c => s.releaseCell c
  | none =>
    match r.ending with
    | .none => s.endRun
    | .ret => s.returnEnding
    | .wrap => s.wrapEnding

/-- As many steps as the conditions allow (R14). -/
def State.runLoop : Nat → State → State
  | 0, s => s
  | f + 1, s =>
    match s.line.run, s.runStatus with
    | some r, .ready => (s.runStep r).runLoop f
    | _, _ => s

/-- The Text Engine keeps whether the run is waiting (R14, R23). -/
def State.noteWaiting (s : State) : State :=
  { s with text := { s.text with runWaits := decide (s.runStatus = .waiting) } }

/-- The release run is examined (R14). The bound is never reached (log entry 32). -/
def State.runExamine (s : State) : State := (s.runLoop (2 * Config.cellPlaces)).noteWaiting

end Sys2Proof.Machine
end

