-- ==== Sys2Proof/Machine/Correct.lean ====
section
/-! DEFINITION. Corrections: withdrawal (R72), deletion (R39), taking back (R127, R128), cells with
nothing on paper (R129), lift-offs (R130 to R133), erases (R136, R137) and the reopening of a RETURNED
line (R138, R139). -/

namespace Sys2Proof.Machine

/-! ## Withdrawal (R72) -/

/-- Some drive is in motion. -/
def State.inMotion (s : State) : Bool :=
  s.carrier.move != .none || s.wheel.move.isSome || s.platen.move.isSome

/-- The head is withdrawn: a wait in HEAT_WAIT is abandoned, motions of POSITION run out, and no entry
is in flight (R72). -/
def State.dropHead (s : State) : State :=
  { s with
    seq := { s.seq with
      stage := none, inFlight := none, liftHeld := false,
      draining := s.seq.draining || (s.seq.stage = some .position && s.inMotion) },
    hammer := { s.hammer with request := none } }

/-- The entries that meet a test are withdrawn, an event at which the head key and the run are examined
(R72, R23). -/
def State.withdraw (p : Entry → Bool) (s : State) : State :=
  let t := { s with strikes := { s.strikes with entries := s.strikes.entries.filter fun e => !p e } }
  (if (s.strikes.entries.head?.map p).getD false then t.dropHead else t).noteR23

/-- The group of a cell is withdrawn. -/
def State.withdrawCell (cell : Nat) (s : State) : State :=
  s.withdraw fun e => e.cell = some cell

/-! ## The cell after a withdrawal (R12) -/

/-- A cell inside the line whose glyph is gone: a GAP in state STRUCK (R11, R12). -/
def Cell.toGap (c : Cell) : Cell :=
  { c with kind := .gap, code := none, overCode := none, underline := false, glyphs := 0,
           state := .struck, prior := none }

/-- A cell takes its prior form (R12). -/
def Cell.restore (c : Cell) : Prior → Cell
  | .struck => { c with state := .struck, overCode := none, prior := none }
  | .gap w e r b u =>
    { c.toGap with wheelId := w, energy := e, ribbon := r, bold := b, underline := u }

/-- A released cell whose group was withdrawn: it takes its prior form, or it is removed when it is the
last cell of the record, or becomes a GAP (R12). The cursor stands before it (R124). -/
def State.takeBack (i : Nat) (c : Cell) (s : State) : State :=
  match c.prior with
  | some p => (s.mapCell c.id fun c => c.restore p).setCursor i
  | none =>
    if i + 1 = s.line.cells.length then s.removeCell i
    else (s.mapCell c.id Cell.toGap).setCursor i

/-! ## Single corrections (R124) -/

/-- What a correction comes to. -/
inductive Correction where
  | acts (s : State)
  | waits
  | refused (s : State)
  deriving DecidableEq, Repr

/-- The re-placement after a deletion (R39, R55, R61). Where no cell has to move there is none; where one
has, none stands for a re-placement that is not allowed: a TAB could not reach its stop, or the end
position would pass the limit of the margin lock. -/
def State.replace (s : State) : Option State :=
  match rechain s.text.aligned s.line with
  | none => none
  | some cells =>
    let t := s.setCells cells
    if cells = s.line.cells then some s else if t.line.endPos ≤ t.limit then some t else none

/-- A PENDING cell is deleted: it leaves the record and the PENDING cells after it are re-placed (R39).
When it is the TAB of an open aligned run the run ends, and in DIRECT typing its cells are released
(R62). A deletion whose re-placement is not allowed is refused (R55). -/
def State.deletePending (i : Nat) (s : State) : Correction :=
  match (s.removeCell i).replace with
  | none => .refused s.click
  | some t =>
    .acts (if s.text.aligned.isSome && t.text.aligned.isNone && t.settings.mode = .direct then
        t.startRun t.line.cells.length .none
      else t)

/-- A STRUCK cell has ink on paper (R124). -/
def Cell.inked (c : Cell) : Bool := 1 ≤ c.glyphs || (c.kind = .space && c.underline)

/-- Tape and ink are compatible (R123). -/
def compatible (tape : TapeKind) (ink : Option RibbonKind) : Bool :=
  match tape, ink with
  | .coverTape, _ => true
  | .liftTape, some .film => true
  | .liftTape, _ => false

/-- The first check of a lift-off that fails (R130). -/
def State.liftRefusal (s : State) (c : Cell) : Option LiftCause :=
  if s.mounted.isNone || s.mounted != c.wheelId then some .wheelChanged
  else match s.ribbon.tape with
    | none => some .tapeAbsent
    | some t => if compatible t c.ribbon then none else some .incompatible

/-- The code a refused lift-off reports (R130). -/
def Cell.liftCode (c : Cell) : Byte :=
  if c.glyphs = 2 then c.overCode.getD 0
  else if c.glyphs = 1 then c.code.getD 0
  else 0x20

/-- A refused lift-off: CLICK and a LIFT_REFUSED notice (R130). -/
def State.refuseLift (cause : LiftCause) (c : Cell) (s : State) : State :=
  s.click.raiseLiftRefused cause c.liftCode

/-- The LIFT group is appended, the cell becomes LIFTING and the cursor stands before it (R132). -/
def State.liftOff (i : Nat) (c : Cell) (s : State) : State :=
  ((s.appendGroup (s.liftPlan c)).mapCell c.id fun c => { c with state := .lifting }).setCursor i

/-- One correction on the cell at an index, the line open or blocked in RETURN_WAIT (R124 to R132). -/
def State.correctAt (i : Nat) (c : Cell) (s : State) : Correction :=
  match c.state with
  | .pending => s.deletePending i
  | .queued => if s.cellBegun c.id then .waits else .acts ((s.withdrawCell c.id).takeBack i c)
  | .striking | .lifting => .waits
  | .struck =>
    if c.inked then
      match s.liftRefusal c with
      | some cause => .refused (s.refuseLift cause c)
      | none =>
        if (s.liftPlan c).length ≤ s.strikeFree then .acts (s.liftOff i c) else .waits
    else if i + 1 = s.line.cells.length then .acts (s.removeCell i)
    else .acts (s.setCursor i)

/-! ## Reopening (R17, R138, R139) -/

/-- The line is reopened (R17); the end-closed flag is cleared (R142). -/
def State.reopen (s : State) : State :=
  { s with
    line := { s.line with
      state := .open, format := .normal, v := s.line.baselineOff.getD 0, baselineOff := none,
      returnFeed := none, returnId := none, cursor := s.line.cells.length },
    spell := { s.spell with endClosed := false },
    display := s.display.hearCursor s.line.cursor s.line.cells.length }

/-- The RETURN entry of the line stands in the queue and has not begun POSITION (R72, R139). -/
def State.returnWithdrawable (s : State) : Bool :=
  match s.line.returnId with
  | none => false
  | some r => s.strikes.entries.any (·.id = r) && !s.entryBegun r

/-- The RETURN entry of the line is withdrawn (R139). -/
def State.withdrawReturn (s : State) : State := s.withdraw fun e => some e.id = s.line.returnId

/-- The reverse FEED of a reopened line (R139). -/
def State.reverseFeed (s : State) : Entry :=
  feedEntry (-(s.line.returnFeed.getD 0)) (s.line.baselineOff.getD 0)

/-- The RETURN is undone at the Strike Queue side for a first correction of g entries: its entry is
withdrawn, or a reverse FEED is appended; none where there is no room for either (R139, steps 2 to 4). -/
def State.undoReturn (g : Nat) (s : State) : Option State :=
  if s.returnWithdrawable then
    if g ≤ s.strikeFree + 1 then some s.withdrawReturn else none
  else if g + 1 ≤ s.strikeFree then some (s.appendGroup [s.reverseFeed])
  else none

/-- The room the first correction of a reopened line needs (R139). -/
def State.firstNeeds (s : State) (c : Cell) : Nat :=
  if c.state = .struck && c.inked then (s.liftPlan c).length else 0

/-- A correction key, or a step of an erase, on a RETURNED line (R138, R139). The group of a QUEUED
last cell is withdrawn before the RETURN entry. -/
def State.correctReturned (s : State) : Correction :=
  match s.line.cells.getLast? with
  | none => .refused s.click
  | some c =>
    let i := s.line.cells.length - 1
    match c.state with
    | .striking | .lifting => .waits
    | .queued =>
      if s.cellBegun c.id then .waits
      else match (s.withdrawCell c.id).undoReturn 0 with
        | some t => .acts (t.reopen.takeBack i c)
        | none => .waits
    | .pending | .struck =>
      match (if c.state = .struck && c.inked then s.liftRefusal c else none) with
      | some cause => .refused (s.refuseLift cause c)
      | none =>
        match s.undoReturn (s.firstNeeds c) with
        | some t => t.reopen.correctAt i c
        | none => .waits

/-- The single correction at the cursor, by the line state (R124, R138). At c = 0 it is refused with
CLICK. -/
def State.correction (s : State) : Correction :=
  if s.line.state = .returned then s.correctReturned
  else if s.line.cursor = 0 then .refused s.click
  else match s.line.cells[s.line.cursor - 1]? with
    | some c => s.correctAt (s.line.cursor - 1) c
    | none => .refused s.click

/-! ## Erases (R136, R137) -/

/-- The cells left of an index that WORD_ERASE takes when the cell there is no TAB, nearest first:
SPACE cells, then cells that are neither SPACE nor TAB (R136). -/
def wordSpan (leftward : List Cell) : Nat :=
  let spaces := (leftward.takeWhile fun c => c.kind = .space).length
  spaces + ((leftward.drop spaces).takeWhile fun c => c.kind ≠ .space && c.kind ≠ .tab).length

/-- The stop index of WORD_ERASE from a cursor (R136). -/
def wordStop (cells : List Cell) (c : Nat) : Nat :=
  let leftward := (cells.take c).reverse
  match leftward.head? with
  | some h => if h.kind = .tab then c - 1 else c - wordSpan leftward
  | none => 0

/-- The cursor a correction key acts from: the end of a RETURNED line, as it would stand reopened
(R138). -/
def Line.correctingCursor (l : Line) : Nat :=
  if l.state = .returned then l.cells.length else l.cursor

/-- The stop index of an erase (R136). -/
def Line.eraseStop (l : Line) : EraseKind → Nat
  | .word => wordStop l.cells l.correctingCursor
  | .line => 0

/-- The erase ends, and the head key is examined again. -/
def State.endErase (s : State) : State :=
  ({ s with text := { s.text with erase := none } } : State).noteR23

/-- The single corrections of a held erase, until one waits or is refused or the cursor stands at the
stop index (R137). A deletion that R55 refuses ends the erase as a refusal by R130 does (log entry 49). -/
def State.eraseLoop : Nat → State → State
  | 0, s => s
  | f + 1, s =>
    match s.text.erase with
    | none => s
    | some e =>
      if s.line.correctingCursor ≤ e.stop then s.endErase
      else match s.correction with
        | .acts t => t.eraseLoop f
        | .waits => s
        | .refused t => t.endErase

/-- A held erase is taken up again at an event of R23 (R137). -/
def State.eraseContinue (s : State) : State :=
  if s.text.eraseDue then
    let t := s.eraseLoop (2 * Config.cellPlaces)
    { t with text := { t.text with eraseDue := false } }
  else s

/-! ## After an event's edits -/

/-- After the edits of an event: the held erase, then the Spelling Unit, then the release run (R137,
R143, R14; log entry 12). `before` is the line as the event found it. -/
def State.textSettle (before : Line) (closedBefore : Bool) (s : State) : State :=
  ((s.eraseContinue).spellingStep before.cells closedBefore).runExamine

end Sys2Proof.Machine
end

