-- ==== Sys2Proof/Machine/Sequencer.lean ====
section
/-! DEFINITION. The Print Sequencer: the decision at a boundary (R75, R83 to R86), the stages of an
entry (R76 to R82), the heat rule (R117), the reports to the Text Engine (R73), and faults (R89). -/

namespace Sys2Proof.Machine

/-! ## The entry in hand -/

/-- The entry the mechanism works on: the test strike in ADJUST, else the head (R192, R71). -/
def State.entry (s : State) : Option Entry :=
  match s.seq.testStrike with
  | some e => some e
  | none => s.strikes.entries.head?

/-- The sequencer's stage is set. -/
def State.setStage (st : Option Stage) (s : State) : State :=
  { s with seq := { s.seq with stage := st } }

/-- The sequencer stands at an entry boundary, or is idle, paused or halted (R75). -/
def State.atBoundary (s : State) : Bool :=
  match s.seq.mech with
  | .idle | .paused | .halted => true
  | .running => s.seq.stage.isNone && !s.seq.draining
  | _ => false

/-- A boundary of RUNNING that has not been decided yet (R75). -/
def State.undecided (s : State) : Bool :=
  s.seq.mech = .running && s.seq.stage.isNone && !s.seq.draining

/-! ## Faults (R89) -/

/-- A fault is taken (R89): its code is set, the state becomes FAULT, the stage becomes none, a FAULT
notice is raised and ALARM is requested. A fault taken in ADJUST leaves ADJUST (R192), an event of
R23. -/
def State.takeFault (code : FaultCode) (s : State) : State :=
  let left := s.seq.mech = .adjust
  let s := { s with
    seq := { s.seq with
      mech := .fault, fault := some code, stage := none, recovering := false,
      inFlight := if left then none else s.seq.inFlight,
      draining := false, testPos := none, testStrike := none, leaving := false },
    hammer := { s.hammer with request := none } }
  let s := (s.raise .fault [byteOf (faultNumber (some code))]).requestTone .alarm true
  if left then s.noteR23 else s

/-! ## Reports (R73, R9, R11, R133) -/

/-- The record of a cell that ink is added to: one that is FILM takes the kind in place, so that a cell with
ink of two kinds records the kind that is not FILM; an absent ribbon adds no ink (R9, R123). -/
def inkAdded (now cell : Option RibbonKind) : Option RibbonKind :=
  if cell = some .film then now.or cell else cell

/-- The ribbon kind a cell records at a fire: the kind in use at the first entry of a PRINT group or of
underscores alone, and what the added ink makes of the record at every other strike (R9, R123; log
entry 39). -/
def firedRibbon (e : Entry) (now cell : Option RibbonKind) : Option RibbonKind :=
  match e.kind with
  | .print | .underscore => if e.first then now else inkAdded now cell
  | .overprint => inkAdded now cell
  | _ => cell

/-- The fire report: a QUEUED cell becomes STRIKING and the ribbon kind is recorded (R9, R73). -/
def State.fireReport (e : Entry) (s : State) : State :=
  match e.cell with
  | none => s
  | some id => s.mapCell id fun c =>
    { c with
      state := if c.state = .queued then .striking else c.state,
      ribbon := firedRibbon e s.ribbon.kind c.ribbon }

/-- The outcome of a LIFT group on its cell, judged against the line at the completion (R11, R133). -/
def State.liftDone (i : Nat) (c : Cell) (s : State) : State :=
  if c.glyphs = 2 then
    s.mapCell c.id fun c => { c with state := .struck, glyphs := 1, overCode := none }
  else if i + 1 = s.line.cells.length then s.removeCell i
  else s.mapCell c.id Cell.toGap

/-- The glyphs on paper after a striking group (R9). -/
def glyphsAfter (e : Entry) (c : Cell) : Nat :=
  if c.kind = .glyph then (if e.kind = .overprint then 2 else 1) else c.glyphs

/-- The completion report: the last mark moves the cell on (R9, R11, R73). -/
def State.completionReport (e : Entry) (s : State) : State :=
  match e.cell with
  | none => s
  | some id =>
    if e.last then
      match s.line.find id, cellIndex id s.line.cells with
      | some c, some i =>
        if c.state = .lifting then s.liftDone i c
        else s.mapCell id fun c =>
          { c with state := .struck, glyphs := glyphsAfter e c, prior := none }
      | _, _ => s
    else s

/-- The head entry leaves the queue with its completion report: an event of R23 and a boundary (R73,
R81, R82). -/
def State.completeHead (s : State) : State :=
  match s.strikes.entries with
  | [] => s.setStage none
  | e :: rest =>
    ({ s with
      strikes := { s.strikes with entries := rest },
      seq := { s.seq with stage := none, inFlight := none } } : State).completionReport e |>.noteR23

/-! ## FIRE and the heat rule (R79, R115, R117) -/

/-- FIRE begins: the account is charged, the pulse starts, the ribbon or tape is lifted, the fired flag
is set and the fire is reported (R79, R115, R117). -/
def State.beginFire (e : Entry) (n : Nat) (s : State) : State :=
  ({ s with
    seq := { s.seq with
      stage := some .fire, inFlight := s.seq.inFlight.map fun f => { f with fired := true } },
    hammer := { heat := s.hammer.heat + n, decay := true, request := none, pulse := some n },
    ribbon := { s.ribbon with
      ribbonUp := s.ribbon.ribbonUp || e.kind ≠ .lift,
      tapeUp := s.ribbon.tapeUp || e.kind = .lift } } : State).fireReport e

/-- A waiting pulse request is granted when H + n ≤ 600 and the hammer is qualified at home (R117). -/
def State.grantable (s : State) : Bool :=
  match s.hammer.request with
  | some n => decide (s.hammer.heat + n ≤ Config.heatFull) && s.inputs.hammerHome.qualified
  | none => false

/-- The conditions of the heat rule are examined (R117). -/
def State.tryFire (s : State) : State :=
  match s.hammer.request, s.entry with
  | some n, some e =>
    if s.grantable && s.seq.stage = some .heatWait then s.beginFire e n else s
  | _, _ => s

/-- HEAT_WAIT begins: a request of 5 + E periods is handed over and judged (R78, R115, R117). -/
def State.beginHeatWait (e : Entry) (s : State) : State :=
  ({ s with
    seq := { s.seq with stage := some .heatWait },
    hammer := { s.hammer with request := some (5 + e.energy.getD 1) } } : State).tryFire

/-! ## POSITION (R76, R77, R95, R96) -/

/-- The encoder marks expected of a move (R95). -/
def expectedMarks (x0 x1 : Nat) : Nat :=
  if x0 / 6 ≤ x1 / 6 then x1 / 6 - x0 / 6 else x0 / 6 - x1 / 6

/-- The mark count lies within 1 of the expected count (R95). -/
def marksGood (expected marks : Nat) : Bool := expected ≤ marks + 1 && marks ≤ expected + 1

/-- A carrier move toward a target begins; a move of no distance ends, checked, at once (R76, R95). The
result says whether it stalled. A move with the position unknown is not made (R93; log entry 16). -/
def State.startCarrier (x : Nat) (s : State) : State × Bool :=
  if !s.carrier.known then (s, false)
  else if s.carrier.pos = x then
    if marksGood 0 s.carrier.marks then
      ({ s with carrier := { s.carrier with marks := 0, move := .none } }, false)
    else
      ({ s with carrier := { s.carrier with marks := 0, known := false, move := .none } }, true)
  else ({ s with carrier := { s.carrier with move := .moving x } }, false)

/-- The angle of a petal with the WHEEL_PHASE trim (R96). -/
def petalAngle (p : Nat) (phase : Int) : Nat := ((16 * (p : Int) + phase) % (Config.wheelSteps : Int)).toNat

/-- A rotation to a petal begins; one of no distance is complete at once (R76, R96). -/
def State.startWheel (p : Nat) (s : State) : State :=
  let t := petalAngle p s.retained.wheelPhase
  if s.wheel.angle = t && s.wheel.move.isNone then s
  else { s with wheel := { s.wheel with move := some t } }

/-- The baseline and typing offset at the end of a platen motion (R77). -/
def Sequencer.afterPlaten (q : Sequencer) (target : Int) : PlatenUpdate → Sequencer
  | .keep => q
  | .feed off => { q with baseline := target - off, u := off }
  | .ret => { q with baseline := target, u := 0 }

/-- What the end of an entry's platen motion does (R77). -/
def Entry.platenUpdate (e : Entry) : PlatenUpdate :=
  match e.kind with
  | .feed => .feed (e.offsetAfter.getD 0)
  | .ret => .ret
  | _ => .keep

/-- The platen target of an entry from the baseline and typing offset (R76). -/
def Sequencer.platenTarget (q : Sequencer) (e : Entry) : Int :=
  match e.kind with
  | .print | .overprint | .underscore | .lift => q.baseline + e.voff.getD 0
  | .move => q.baseline + q.u
  | .feed | .ret => q.baseline + q.u + e.feed.getD 0

/-- A platen motion to a target begins; one of no distance ends at once (R76, R77). -/
def State.startPlaten (target : Int) (u : PlatenUpdate) (s : State) : State :=
  if s.platen.counter = target && s.platen.move.isNone then
    { s with seq := s.seq.afterPlaten target u }
  else { s with platen := { s.platen with move := some ⟨target, u⟩ } }

/-- Every motion of the entry has reached its target (R76); none of an entry with a carrier target while
the carrier's position is unknown (R93). -/
def State.arrived (s : State) (e : Entry) : Bool :=
  s.carrier.move = .none && (e.x.isNone || s.carrier.known) && s.platen.move.isNone &&
    (!e.kind.striking || s.wheel.move.isNone)

/-- POSITION ends: a striking entry enters HEAT_WAIT, a motion entry completes (R76, R78, R82). In
ADJUST the departure's carrier move ends elsewhere. -/
def State.positionEnd (e : Entry) (s : State) : State :=
  if s.seq.stage = some .position && s.arrived e then
    if e.kind.striking then s.beginHeatWait e else s.completeHead
  else s

/-- The carrier and wheel of an entry begin to move, or stall at once (R76, R89). -/
def State.moveAcross (e : Entry) (s : State) : State :=
  let s := if e.kind.striking then s.startWheel (e.petal.getD 0) else s
  match e.x with
  | none => s
  | some x =>
    let r := s.startCarrier x
    if r.2 then r.1.takeFault .carrierStall else r.1

/-- The motions of an entry begin: the platen first and then the carrier and wheel, or for a RETURN the
carrier and platen together (R76). -/
def State.beginMotions (e : Entry) (target : Int) (s : State) : State :=
  let s := s.startPlaten target e.platenUpdate
  match e.kind with
  | .feed => s
  | .ret => s.moveAcross e
  | _ => if s.platen.move.isNone then s.moveAcross e else s

/-- POSITION begins; the platen target is computed the first time and kept afterwards (R74, R76). -/
def State.beginPosition (e : Entry) (s : State) : State :=
  let target := match s.seq.inFlight with
    | some f => f.platenTarget
    | none => s.seq.platenTarget e
  let s := { s with seq := { s.seq with
    stage := some .position,
    inFlight := some (s.seq.inFlight.getD ⟨target, false⟩) } }
  (s.beginMotions e target).positionEnd e

/-! ## ADVANCE (R81, R120, R122) -/

/-- The steps of an entry's advance by the kind in place when ADVANCE begins (R120, R122). -/
def advanceSteps (e : Entry) (ribbon : Option RibbonKind) (tape : Option TapeKind) : Nat :=
  let w := e.width.getD 4
  if e.kind = .lift then (if tape.isSome then Config.tapeSteps else 0)
  else match ribbon with
    | none => 0
    | some .fabric => 1
    | some .film => max 4 w
    | some .multi => (w + 2) / 3

/-- The entry has done its ADVANCE: the head completes; a test strike leaves the mechanism in ADJUST
with the test position risen by the code's escapement (R81, R192). -/
def State.advanceDone (s : State) : State :=
  let s := { s with ribbon := { s.ribbon with advance := 0 } }
  if s.seq.testStrike.isSome then
    { s with seq := { s.seq with
        stage := none, inFlight := none, testStrike := none,
        testPos := s.seq.testPos.map (· + ((s.seq.testStrike.bind (·.width)).getD 0)) } }
  else s.completeHead

/-- ADVANCE begins; an advance of no steps ends at once (R81, R120). -/
def State.beginAdvance (e : Entry) (s : State) : State :=
  let n := advanceSteps e s.ribbon.kind s.ribbon.tape
  let s := { s with
    seq := { s.seq with stage := some .advance }, ribbon := { s.ribbon with advance := n } }
  if n = 0 then s.advanceDone else s

/-! ## LIFT entries and the wheel (R86) -/

/-- The cell of a withdrawn LIFT group returns to STRUCK (R12). -/
def State.liftWithdrawnCell (cell : Option Nat) (s : State) : State :=
  match cell with
  | some id => s.mapCell id fun c => { c with state := .struck }
  | none => s

/-- The code a withdrawn LIFT group reports: that of R130, or 0x00 with no cell (R86). -/
def State.withdrawnLiftCode (s : State) (cell : Option Nat) : Byte :=
  ((cell.bind s.line.find).map Cell.liftCode).getD 0

/-- The LIFT group at the head, not begun, is withdrawn by the Print Sequencer itself (R86). -/
def State.withdrawHeadLift (e : Entry) (s : State) : State :=
  let code := s.withdrawnLiftCode e.cell
  let ids := (headGroup s.strikes.entries).map (·.id)
  ((s.withdraw fun x => ids.contains x.id).liftWithdrawnCell e.cell).raiseLiftRefused
    .wheelChanged code

/-- A LIFT entry whose group has begun is held at the head (R86). -/
def State.holdLift (s : State) : State := { s with seq := { s.seq with liftHeld := true } }

/-! ## The decision (R75, R83 to R86) -/

/-- The head entry is taken up in RUNNING: ADVANCE for one kept fired, the LIFT check, WHEEL_HOME where
the angle is not known, else POSITION (R75, R76, R86, R89, R90, R96). -/
def State.beginHead (e : Entry) (s : State) : State :=
  if (s.seq.inFlight.map (·.fired)).getD false then s.beginAdvance e
  else if e.kind = .lift && e.wheelId != some s.wheel.id then
    if e.first then s.withdrawHeadLift e else s.holdLift
  else if e.kind.striking && !s.wheel.known then s.takeFault .wheelHome
  else s.beginPosition e

/-- The mechanism state is set; the Display Controller is told of a change (R167). -/
def State.setMech (m : Mech) (s : State) : State :=
  { s with
    seq := { s.seq with mech := m },
    display := { s.display with told := s.display.told || m != s.seq.mech } }

/-- The halt cause set as formed afresh is kept (R83); the Display Controller is told of a change
(R167). -/
def State.storeCauses (s : State) : State :=
  { s with
    seq := { s.seq with causes := s.causesNow },
    display := { s.display with told := s.display.told || s.causesNow != s.seq.causes } }

/-- HALTED, with a HALT notice on entering and on every cause that joins (R84). -/
def State.toHalted (s : State) : State :=
  let joined := s.seq.mech ≠ .halted || s.causesNow.any fun c => !s.seq.causes.contains c
  let t := s.storeCauses.setMech .halted
  if joined then t.raise .halt [causeByte s.causesNow] else t

/-- The decision where no cause is in the set; a halt that ends raises CLEARED (R75, R85). -/
def State.decideClear (s : State) : State :=
  let t := s.storeCauses
  let t := if s.seq.mech = .halted then t.raise .cleared [0] else t
  if s.seq.pause then t.setMech .paused
  else match s.strikes.entries with
    | [] => t.setMech .idle
    | e :: _ => (t.setMech .running).beginHead e

/-- The Print Sequencer forms its halt cause set and, at a boundary, decides its state (R75, R83). -/
def State.decideState (s : State) : State :=
  if s.atBoundary then
    if s.causesNow.isEmpty then s.decideClear else s.toHalted
  else s.storeCauses

/-- Decisions until the sequencer is in a stage or at rest. What a decision frees in the queue is taken
up by the erase and the release run before the next one. The bound is never reached (log entry 32). -/
def State.seqLoop : Nat → State → State
  | 0, s => s
  | f + 1, s =>
    let t := s.decideState
    if t.undecided then (t.textSettle s.line s.spell.endClosed).seqLoop f else t

/-- The Print Sequencer follows an event (R75). -/
def State.sequence (s : State) : State := s.seqLoop 400

/-- FAULT, STARTING or ADJUST is left for a boundary (R75, R90, R92, R193). -/
def State.toBoundary (s : State) : State := s.setMech .idle

end Sys2Proof.Machine
end

