-- ==== Sys2Proof/Machine/Display.lean ====
section
/-! DEFINITION. The Display Controller: the window (R160), the two rows (R161 to R165), the lamps
(R166), the render (R167) and the Display Port (R168). -/

namespace Sys2Proof.Machine

/-! ## The first row (R160 to R162) -/

/-- The window origin brought to the cursor (R160). -/
def windowOrigin (w c : Nat) : Nat :=
  if w + 35 < c then c - 35 else if c < w + 4 then c - 4 else w

/-- The code a position of the line shows, without the cursor block (R161). -/
def Line.shown (l : Line) (p : Nat) : Byte :=
  match l.cells[p]? with
  | some c =>
    match c.kind with
    | .glyph => match c.overCode with
      | some o => o
      | none => c.code.getD 0x20
    | .space => 0x20
    | .tab => 0x1A
    | .gap => 0x1B
  | none => if p = l.cells.length && l.state = .returned then 0x1C else 0x20

/-- The mark of a position of the line: set for a PENDING GLYPH, SPACE or TAB (R161). -/
def Line.marked (l : Line) (p : Nat) : Bool :=
  match l.cells[p]? with
  | some c => c.state = .pending && c.overCode.isNone && c.kind ≠ .gap
  | none => false

/-- Row 1 from a window origin; the cursor block in the on phase (R160 to R162). -/
def Line.row1 (l : Line) (w : Nat) (phaseOn : Bool) : List Byte :=
  (List.range 40).map fun j =>
    if phaseOn && w + j = l.cursor then 0x1F else l.shown (w + j)

/-- The marks of row 1. -/
def Line.marks1 (l : Line) (w : Nat) : List Bool := (List.range 40).map fun j => l.marked (w + j)

/-! ## The second row (R163 to R165) -/

/-- A fault code as row 2 shows it, with spaces for underscores (R163). -/
def faultText : Option FaultCode → List Byte
  | none => []
  | some .carrierStall => ascii "CARRIER STALL"
  | some .carrierHome => ascii "CARRIER HOME"
  | some .wheelHome => ascii "WHEEL HOME"
  | some .wheelId => ascii "WHEEL ID"
  | some .hammer => ascii "HAMMER"

/-- A halt cause as row 2 shows it (R163). -/
def causeText : HaltCause → List Byte
  | .coverOpen => ascii "COVER OPEN"
  | .paperOut => ascii "PAPER OUT"
  | .ribbonAbsent => ascii "RIBBON ABSENT"
  | .ribbonEnd => ascii "RIBBON END"
  | .noWheel => ascii "NO WHEEL"
  | .tapeAbsent => ascii "TAPE ABSENT"
  | .tapeEnd => ascii "TAPE END"

/-- The HALT message: the first cause, and how many others are present (R163). -/
def haltText : List HaltCause → List Byte
  | [] => ascii "HALT "
  | c :: cs =>
    ascii "HALT " ++ causeText c ++ (if cs.isEmpty then [] else ascii " +" ++ decimal cs.length)

/-- A signed trim, its sign always shown (R165). -/
def signedText (i : Int) : List Byte :=
  (if i < 0 then ascii "-" else ascii "+") ++ decimal i.natAbs

/-- The effective pitch as the template shows it (R165). -/
def pitchText : EffPitch → List Byte
  | .ps => ascii "PS" | .ten => ascii "P10" | .twelve => ascii "P12" | .fifteen => ascii "P15"

/-- The spacing in lines (R165). -/
def spacingText : Spacing → List Byte
  | .s8 => ascii "S1" | .s12 => ascii "S1.5" | .s16 => ascii "S2" | .s20 => ascii "S2.5"
  | .s24 => ascii "S3"

/-- The typing mode (R165). -/
def modeText : TypingMode → List Byte
  | .direct => ascii "DIRECT" | .word => ascii "WORD" | .line => ascii "LINE"

/-- The suffix of the current line's format (R165). -/
def formatText : Format → List Byte
  | .normal => [] | .center => ascii "/C" | .flushRight => ascii "/F" | .justify => ascii "/J"

/-- The spelling mode (R165). -/
def spellText : SpellMode → List Byte
  | .off => ascii "OFF" | .alert => ascii "ALERT" | .hold => ascii "HOLD"

/-- The settings template (R165). -/
def State.settingsText (s : State) : List Byte :=
  ascii "L" ++ decimal s.settings.left ++ ascii " R" ++ decimal s.settings.right ++ ascii " " ++
    pitchText s.pitch ++ ascii " I" ++ decimal s.settings.impression ++ ascii " " ++
    spacingText s.settings.spacing ++ ascii " " ++ modeText s.settings.mode ++
    formatText s.line.format ++ ascii " " ++ spellText s.settings.spell

/-- The adjust template (R165). -/
def State.adjustText (s : State) : List Byte :=
  ascii "ADJUST IMP " ++ signedText s.retained.impression ++ ascii " PHASE " ++
    signedText s.retained.wheelPhase ++ ascii " OFFSET " ++ signedText s.retained.printOffset

/-- The held word: the first record that is UNKNOWN, not accepted, and has a cell kept back (R163). -/
def State.heldWord (s : State) : Option WordRecord :=
  s.spell.table.find? fun r => r.openWord && s.recordKept r

/-- The text of row 2 by the first line of R163's table that applies, and the columns marked: those of
a held word after its "? ". -/
def State.row2 (s : State) : List Byte × Nat :=
  match s.seq.mech with
  | .fault => (ascii "FAULT " ++ faultText s.seq.fault, 0)
  | .halted => (haltText s.seq.causes, 0)
  | .starting => (ascii "STARTING", 0)
  | .adjust => (s.adjustText, 0)
  | _ =>
    match s.heldWord with
    | some r => (s.wordText r, (s.typedCodes r).length)
    | none =>
      match s.display.slot with
      | some m => (m.text, 0)
      | none => (s.settingsText, 0)

/-- A text filled with blanks to 40 columns (R163). -/
def fill40 (t : List Byte) : List Byte := (t ++ List.replicate 40 0x20).take 40

/-- The marks of row 2: under each character of a held word (R163). -/
def marks2 (n : Nat) : List Bool := (List.range 40).map fun j => decide (2 ≤ j ∧ j < 2 + n)

/-! ## Marks and lamps (R166, R185) -/

/-- Eight marks as a byte, the first in bit 7 (R185). -/
def markByte (bs : List Bool) : Byte := byteOf (bs.foldl (fun n b => 2 * n + bit b) 0)

/-- Forty marks as five bytes (R185). -/
def markBytes (bs : List Bool) : List Byte :=
  [markByte (bs.take 8), markByte ((bs.drop 8).take 8), markByte ((bs.drop 16).take 8),
    markByte ((bs.drop 24).take 8), markByte ((bs.drop 32).take 8)]

/-- The lamp byte (R166, R185). -/
def State.lamps (s : State) : Byte :=
  markByte [s.pitch = .ps, s.text.bold, s.text.underline, s.settings.mode = .word,
    s.settings.mode = .line, s.settings.spell ≠ .off, s.runStatus = .blocked, s.seq.mech = .fault]

/-! ## Rendering and sending (R167, R168) -/

/-- The frame composed from the state as it stands (R167, R185). -/
def State.frame (s : State) : List Byte :=
  let w := s.display.origin
  0xD0 :: (s.line.row1 w s.display.phaseOn ++ fill40 s.row2.1 ++ markBytes (s.line.marks1 w) ++
    markBytes (marks2 s.row2.2) ++ [s.lamps])

/-- A frame goes into NEXT and GO is set; with the port idle it is handed over at once and its send
begins (R167, R168). -/
def Display.submit (d : Display) (f : List Byte) : Display :=
  if d.sending then { d with next := f, go := true }
  else { d with current := f, next := f, go := false, sending := true }

/-- A render: w is brought to the cursor and a whole frame is composed (R160, R167). -/
def State.render (s : State) : State :=
  let s := { s with display := { s.display with
    origin := windowOrigin s.display.origin s.line.cursor } }
  { s with display := { s.display.submit s.frame with told := false, cursorTold := false } }

/-- What the Spelling Unit reports of a record: its verdict and acceptance (R167). -/
def WordRecord.reported (r : WordRecord) : Nat × WordState × Bool :=
  (r.id, (if r.state = .looking then .waiting else r.state), r.accepted)

/-- Whether an event has brought a change that R167 lists: one the Display Controller was told of, or one
that shows in the state. -/
def State.displayChanged (old new : State) : Bool :=
  old.line != new.line || old.text.bold != new.text.bold ||
  old.text.underline != new.text.underline || old.text.marginRelease != new.text.marginRelease ||
  old.settings.left != new.settings.left || old.settings.right != new.settings.right ||
  old.settings.impression != new.settings.impression ||
  old.settings.spacing != new.settings.spacing || old.settings.mode != new.settings.mode ||
  old.settings.spell != new.settings.spell || old.pitch != new.pitch ||
  old.seq.mech != new.seq.mech || old.seq.causes != new.seq.causes ||
  old.seq.fault != new.seq.fault ||
  old.spell.table.map WordRecord.reported != new.spell.table.map WordRecord.reported ||
  old.display.slot != new.display.slot || new.display.told || new.display.cursorTold ||
  (new.seq.mech = .adjust &&
    (old.retained.impression != new.retained.impression ||
     old.retained.wheelPhase != new.retained.wheelPhase ||
     old.retained.printOffset != new.retained.printOffset))

/-- A render that follows a change of the cursor sets the blink phase to on and restarts its timer (R162). -/
def State.steadyBlink (s : State) : State :=
  { s with display := { s.display with phaseOn := true, blinkTimer := Config.blinkPeriod } }

/-- One render at the end of an event that brought a change (R162, R167). -/
def State.renderIf (s old : State) : State :=
  if old.displayChanged s then
    (if s.display.cursorTold then s.steadyBlink else s).render
  else s

end Sys2Proof.Machine
end

