-- ==== Sys2Proof/Machine/Link.lean ====
section
/-! DEFINITION. The Link Port: the transmitter's choice (R179, R184), frames in error (R173, R174), KEY
and TEXT frames (R175, R176), the request slot (R178), and the end of every event. -/

namespace Sys2Proof.Machine

/-! ## The transmitter (R179, R184) -/

/-- The fourteen kinds from the one after a kind on, wrapping (R184). -/
def kindsAfter (k : NoticeKind) : List NoticeKind :=
  NoticeKind.all.drop k.number ++ NoticeKind.all.take k.number

/-- The first kind that is both pending and enabled (R184). -/
def NoticeTable.choose (t : NoticeTable) : Option NoticeKind :=
  (kindsAfter t.last).find? fun k => (t.rows.row k).raised && (t.rows.row k).enabled

/-- The payload of a NOTICE frame (R179). -/
def noticePayload (k : NoticeKind) (r : NoticeRow) : List Byte :=
  byteOf k.number :: byteOf r.count :: r.data

/-- A frame begins to be sent. -/
def State.sendFrame (what : Sent) (kind : Byte) (payload : List Byte) (s : State) : State :=
  { s with link := { s.link with transmitter := .sending what (frameBytes kind payload) } }

/-- A notice is sent: its row's pending flag and count are cleared and it is the last kind sent
(R184). -/
def State.sendNotice (k : NoticeKind) (s : State) : State :=
  let r := s.notices.rows.row k
  let t := { s with notices :=
    { rows := s.notices.rows.setRow k { r with raised := false, count := 0 }, last := k } }
  t.sendFrame (.notice k) 0x82 (noticePayload k r)

/-- The transmitter chooses its next frame: the slot answer, the BUSY answer, or a notice (R179). -/
def State.chooseFrame (s : State) : State :=
  match s.link.slotAnswer with
  | some p => ({ s with link := { s.link with slotAnswer := none } } : State).sendFrame .answer 0x81 p
  | none =>
    match s.link.busyAnswer with
    | some n =>
      ({ s with link := { s.link with busyAnswer := none } } : State).sendFrame .busy 0x81 [n, 0x01]
    | none =>
      match s.notices.choose with
      | some k => s.sendNotice k
      | none => { s with link := { s.link with transmitter := .idle } }

/-- An idle transmitter takes up what waits (R179). -/
def State.transmit (s : State) : State :=
  match s.link.transmitter with
  | .idle => s.chooseFrame
  | .sending _ _ => s

/-- The end of an event: one render if it brought a change, and the transmitter's choice (R167, R179;
log entry 12). -/
def State.finish (s old : State) : State := (s.renderIf old).transmit

/-- The end of an event that touched the line or the mechanism: the erase, the Spelling Unit and the
release run, the Print Sequencer's decision, the render and the transmitter (log entry 12). -/
def State.conclude (s old : State) : State :=
  ((s.textSettle old.line old.spell.endClosed).sequence).finish old

/-! ## Receiving (R172 to R176) -/

/-- Bytes are being received: the part is live and the receiver is not resynchronising (R173, R174). -/
def State.receiving (s : State) : Bool := s.live && s.link.receiver ≠ .resync

/-- The frame in hand is a whole good frame, and the receiver hunts again (R173). -/
def State.takeFrame (kind : Byte) (payload : List Byte) (s : State) : State :=
  { s with link := { s.link with
      receiver := .hunt, hand := ⟨some kind, some (byteOf payload.length), payload⟩ } }

/-- The record of a frame in error (R174). -/
def errorRecord (err : FrameErr) (h : FrameInHand) : ErrorRecord :=
  ⟨err, h.kind, h.length, h.payload.take 8⟩

/-- A frame in error is discarded: logged if the log is empty, counted, ALERT low, RESYNC, and a
FRAME_ERROR notice (R174). -/
def State.frameFails (err : FrameErr) (h : FrameInHand) (s : State) : State :=
  let count := min 255 (s.link.errorCount + 1)
  ({ s with link := { s.link with
      receiver := .resync, hand := h,
      errorLog := some (s.link.errorLog.getD (errorRecord err h)),
      errorCount := count, alertLow := true } } : State).raise .frameError
    [byteOf err.number, byteOf count]

/-- A key is offered to the Key Queue (R175). -/
def State.offerKey (code flags : Byte) (s : State) : State :=
  let repeated := flags.toNat % 2 = 1
  if s.seq.mech = .adjust then s.raiseKeyLost 3 code .key
  else if repeated && s.keyFree ≤ 16 then s.raiseKeyLost 1 code .key
  else if !repeated && s.keyFree = 0 then s.raiseKeyLost 0 code .key
  else s.joinKeys [⟨code, .key, repeated⟩]

/-- The entries of a frame of printer data (R176). -/
def textEntries (bytes : List Byte) : List KeyEntry :=
  (bytes.filterMap textEntry).map fun c => ⟨c, .text, false⟩

/-- A TEXT frame is taken, refused whole, or discarded in ADJUST (R176). -/
def State.offerText (bytes : List Byte) (s : State) : State :=
  if s.seq.mech = .adjust then s.raiseKeyLost 3 (bytes.headD 0) .text
  else if s.keyFree < bytes.length + 8 then
    s.raise .textRefused [byteOf bytes.length, byteOf s.keyFree]
  else s.joinKeys (textEntries bytes)

/-! ## The request slot (R178) -/

/-- The results of requests (R185). -/
inductive Result where
  | done | busy | badState | badValue | unknown | listFull | notFound | already | atLimit | notReady
  deriving DecidableEq, Repr

/-- The number of a result (R185). -/
def Result.number : Result → Nat
  | .done => 0 | .busy => 1 | .badState => 2 | .badValue => 3 | .unknown => 4 | .listFull => 5
  | .notFound => 6 | .already => 7 | .atLimit => 8 | .notReady => 9

/-- The outcome of acting on a request: the state, the result and the answer's data. -/
structure Acted where
  state : State
  result : Result
  data : List Byte

/-- A request is answered with no change. -/
def State.answer (s : State) (r : Result) : Acted := ⟨s, r, []⟩

/-- A request is answered DONE with no data. -/
def State.answerDone (s : State) : Acted := ⟨s, .done, []⟩

/-- A request is offered to the slot: acted on when the slot is idle, its answer formed in the same
event; answered BUSY, or discarded, when it is busy (R178). -/
def State.offerRequest (num code : Byte) (args : List Byte) (act : State → Acted) (s : State) :
    State :=
  if !s.receiving || !goodRequest args then s
  else
    let t := s.takeFrame 0x03 (num :: code :: args)
    match t.link.slot with
    | some _ =>
      ({ t with link := { t.link with
          busyAnswer := some (t.link.busyAnswer.getD num) } } : State).finish s
    | none =>
      let a := act ({ t with link := { t.link with slot := some ⟨num, false⟩ } } : State)
      ({ a.state with link := { a.state.link with
          slotAnswer := some (num :: byteOf a.result.number :: a.data) } } : State).finish s

/-! ## Gates by the mechanism state (R181) -/

/-- A request that acts in every state but ADJUST, where it is answered BAD_STATE (R181). -/
def State.gateAdjust (s : State) (act : Acted) : Acted :=
  if s.seq.mech = .adjust then s.answer .badState else act

/-- A request answered NOT_READY in STARTING and BAD_STATE in ADJUST (R181, R189). -/
def State.gateBoth (s : State) (act : Acted) : Acted :=
  if s.seq.mech = .starting then s.answer .notReady else s.gateAdjust act

/-- A service request: NOT_READY in STARTING and BAD_STATE outside ADJUST (R181, R189; log entry 34). -/
def State.gateService (s : State) (act : Acted) : Acted :=
  if s.seq.mech = .starting then s.answer .notReady
  else if s.seq.mech = .adjust then act else s.answer .badState

end Sys2Proof.Machine
end

