-- ==== Sys2Proof/Machine/Keys.lean ====
section
/-! DEFINITION. Taking keys (R22 to R25): the examination of the head key, what keeps it in place, the
line state's gate, and refusals. -/

namespace Sys2Proof.Machine

/-- The head key is left in place whatever it would do (R23). -/
def State.keyHeld (s : State) (k : KeyKind) : Bool :=
  s.seq.startup.isSome || s.seq.mech = .adjust ||
    (k ≠ .printHold && (s.runStatus = .waiting || s.text.erase.isSome))

/-- The key of the head of the Key Queue, when it is of a kind and is to be examined (R23; log
entry 2). -/
def State.dueHead (s : State) (k : KeyKind) : Option KeyEntry :=
  match s.keys with
  | e :: _ => if s.text.headDue && keyKind e.code = k then some e else none
  | [] => none

/-- The head key has been examined and stays, untouched, until the next event of R23. -/
def State.keyStays (s : State) : State :=
  { s with text := { s.text with headDue := false } }

/-- The examination of the head key. `act` works out what the key does on the state in which it has been
taken; none is a key that stays at the head (R23). -/
def State.examine (k : KeyKind) (act : KeyEntry → State → Option State) (s : State) : State :=
  if !s.live then s
  else match s.dueHead k with
    | none => s
    | some e =>
      if s.keyHeld k then s.keyStays
      else match act e s.takeHead with
        | none => s.keyStays
        | some t => t.conclude s

/-- A refusal with CLICK and a KEY_LOST notice with cause REFUSED (R22, R25). -/
def State.refuseLost (e : KeyEntry) (s : State) : State :=
  s.click.raiseKeyLost 2 e.code e.source

/-- The line state's gate for printing, layout and line-moving keys: refused in RETURN_WAIT; on a
RETURNED line the line is closed and a new one opened first (R25). -/
def State.onNewLine (e : KeyEntry) (act : State → Option State) (s : State) : Option State :=
  match s.line.state with
  | .open => act s
  | .returnWait => some (s.refuseLost e)
  | .returned => act s.nextLine

/-- The line state's gate for cursor keys: refused with CLICK on a RETURNED line (R25). -/
def State.onThisLine (act : State → Option State) (s : State) : Option State :=
  if s.line.state = .returned then some s.click else act s

/-- One motion entry is appended, when there is room for it; none where the key stalls (R23, R24). -/
def State.withRoom (e : Entry) (s : State) : Option State :=
  if 1 ≤ s.strikeFree then some (s.appendGroup [e]) else none

end Sys2Proof.Machine
end

