-- ==== Sys2Proof/Machine/Typing.lean ====
section
/-! DEFINITION. The printing keys (R26 to R38, R60 to R62, R126): graphic codes, SPACE, TAB and
DECIMAL_TAB, with the auto-wrap (R34, R35) and the overflow space (R36). -/

namespace Sys2Proof.Machine

/-! ## Making cells (R26) -/

/-- A new PENDING cell with v and the typing attributes; underline clear in a TAB cell (R26). -/
def State.newCell (s : State) (kind : CellKind) (code : Option Byte) (x e : Nat) : Cell :=
  { id := 0, kind := kind, code := code, overCode := none, x := x, e := e, voff := s.line.v,
    bold := s.text.bold, underline := s.text.underline && decide (kind ≠ .tab), wheelId := none,
    energy := none, ribbon := none, glyphs := 0, state := .pending, prior := none, wordId := none }

/-- A refusal for want of a 161st cell: CLICK and LINE_FULL (R6, R26). -/
def State.refuseFull (code : Byte) (s : State) : State := s.click.raiseLineFull code

/-- The record holds 160 cells (R6). -/
def Line.full (l : Line) : Bool := Config.cellPlaces ≤ l.cells.length

/-- An aligned run closes: the TAB cell's escapement is fixed as it stands (R62). -/
def State.closeAligned (s : State) : State :=
  { s with text := { s.text with aligned := none } }

/-- A cell is inserted at an index, or appended at the end, and the PENDING cells are re-placed; none
where R55 does not allow it or the end position would pass the limit (R28, R54, R55, R61). -/
def State.place (i : Nat) (c : Cell) (s : State) : Option State :=
  let t := s.insertCell i c
  match rechain t.text.aligned t.line with
  | none => none
  | some cells =>
    let t := t.setCells cells
    if t.line.endPos ≤ t.limit then some t else none

/-- A new cell goes into the record, or the key is refused for the margin or for want of a place (R26,
checks 3 and 4); then the bell (R45). `next` is what the key does once its cell is made. -/
def State.make (code : Byte) (i : Nat) (c : Cell) (next : State → State) (s : State) : State :=
  match s.place i c with
  | none => s.click
  | some t => if s.line.full then s.refuseFull code else next (t.bellAfter s.line.endPos)

/-- Where a printing key acts (R27). -/
inductive Place where | atEnd | insert (i : Nat) | struck
  deriving DecidableEq, Repr

/-- Where a printing key acts, by the cursor and the cells beside it (R27). -/
def Line.place (l : Line) : Place :=
  if l.cells.length ≤ l.cursor then .atEnd
  else
    let i := l.cursor
    match l.cells[i - 1]? with
    | some c => if c.state = .pending then .insert i else .struck
    | none => .struck

/-- The cell at the cursor is LIFTING: a printing key waits (R126). -/
def Line.liftingAtCursor (l : Line) : Bool :=
  match l.cells[l.cursor]? with
  | some c => c.state = .lifting
  | none => false

/-- An append is released at once: DIRECT typing, no PENDING cell, no whole-line format and no open
aligned run (R30). -/
def State.releasesAtOnce (s : State) : Bool :=
  s.settings.mode = .direct && s.line.settled && !s.line.format.isPlaced && s.text.aligned.isNone

/-- The release of everything made so far. -/
def State.releaseAll (s : State) : State := s.startRun s.line.cells.length .none

/-! ## Auto-wrap (R34, R35) -/

/-- An auto-wrap may be decided, but for the margin (R34). -/
def State.wraps (s : State) : Bool :=
  s.settings.mode ≠ .direct && !s.line.format.isPlaced && s.text.aligned.isNone &&
    !s.text.marginRelease

/-- The index at which the carry word begins: after the last cell that is a SPACE, a TAB, or not PENDING
(R34). -/
def Line.carryFrom (l : Line) : Nat :=
  l.cells.length - (l.cells.reverse.takeWhile fun c =>
    c.state = .pending && c.kind ≠ .space && c.kind ≠ .tab).length

/-- The cells from an index on leave the record, one by one from the right (R35). -/
def State.removeFrom (i : Nat) : Nat → State → State
  | 0, s => s
  | f + 1, s =>
    if i < s.line.cells.length then (s.removeCell (s.line.cells.length - 1)).removeFrom i f else s

/-- The first part of a wrap, in the event that takes the key (R35). A line whose wrapped flag stood before
is not justified again: the flag has not just been set (R66). -/
def State.wrap (c : Cell) (s : State) : State :=
  let i := s.line.carryFrom
  let carry := s.line.cells.drop i ++ [c]
  let t := s.removeFrom i carry.length
  let t := { t with line := { t.line with wrapped := true }, text := { t.text with carry := carry } }
  let t := t.startRun t.line.cells.length .wrap
  if s.line.wrapped then t else t.justify

/-- A graphic key that would wrap: the checks of R34, then the wrap. -/
def State.tryWrap (e : KeyEntry) (c : Cell) (s : State) : State :=
  let i := s.line.carryFrom
  if i = 0 then s.refuseFull e.code
  else if s.settings.right - s.settings.left < width (s.line.cells.drop i) + c.e then
    s.refuseFull e.code
  else if s.effMode = .hold && s.anyHeldWord then s.refuseLost e
  else s.wrap c

/-! ## Graphic codes (R26 to R35) -/

/-- A graphic code appended at the end (R26, R28, R30, R34, R38, R61, R62). -/
def State.appendGraphic (e : KeyEntry) (s : State) : Option State :=
  let x := s.line.endPos
  let c := s.newCell .glyph (some e.code) x (s.glyphE e.code)
  if s.wraps && s.settings.right < x + c.e then some (s.tryWrap e c)
  else if s.releasesAtOnce then
    let t := s.make e.code s.line.cells.length c State.releaseAll
    if t.line.run.isSome && s.strikeFree < (s.releasePlan c).length then none else some t
  else
    let closes := s.text.aligned.isSome && e.code = 0x2E
    let t := if closes then s.closeAligned else s
    let next (u : State) : State :=
      if closes && u.settings.mode = .direct then u.releaseAll else u
    match t.place s.line.cells.length c with
    | none => some s.click
    | some _ => some (if s.line.full then s.refuseFull e.code
        else t.make e.code s.line.cells.length c next)

/-- A graphic code inserted into the pending region (R27, R28, R61). A '.' inserted into the open
aligned run joins it and closes it (R38; log entry 18). -/
def State.insertGraphic (e : KeyEntry) (i : Nat) (s : State) : State :=
  let x := (s.line.cells[i]?.map (·.x)).getD s.line.endPos
  let c := s.newCell .glyph (some e.code) x (s.glyphE e.code)
  let inRun := match s.text.aligned with
    | some a => ((cellIndex a.tabCell s.line.cells).map fun j => decide (j < i)).getD false
    | none => false
  let next (u : State) : State :=
    if inRun && e.code = 0x2E then
      (if u.settings.mode = .direct then u.closeAligned.releaseAll else u.closeAligned)
    else u
  s.make e.code i c next

/-- The form a gap takes when it is filled (R10, R29). -/
def State.filled (s : State) (code : Byte) (c : Cell) : Cell :=
  { c with kind := .glyph, code := some code, bold := s.text.bold, underline := s.text.underline,
           prior := some (.gap c.wheelId c.energy c.ribbon c.bold c.underline) }

/-- A gap fill: the group is appended, the cell is QUEUED and the cursor passes it; none where it stalls
(R10, R24, R29). -/
def State.fillGap (code : Byte) (c : Cell) (s : State) : Option State :=
  let f := s.filled code c
  let plan := s.releasePlan f
  if plan.length ≤ s.strikeFree then
    some (((s.appendGroup plan).mapCell c.id fun c =>
      { s.filled code c with
        state := .queued, wheelId := some s.wheel.id, energy := some (s.energyOf code) }
      ).setCursor (s.line.cursor + 1))
  else none

/-- An overstrike: the group is appended and the cell is QUEUED; none where it stalls (R10, R24,
R29). -/
def State.overstrike (code : Byte) (c : Cell) (s : State) : Option State :=
  let plan := s.overPlan c code
  if plan.length ≤ s.strikeFree then
    some ((s.appendGroup plan).mapCell c.id fun c =>
      { c with state := .queued, overCode := some code, prior := some .struck })
  else none

/-- The cell can be filled (R29). -/
def State.fillable (s : State) (code : Byte) (c : Cell) : Bool :=
  c.kind = .gap && c.state = .struck && s.fits code c.e

/-- The cell can be overstruck (R29). -/
def State.overstrikable (s : State) (code : Byte) (c : Cell) : Bool :=
  c.kind = .glyph && c.state = .struck && c.overCode.isNone && s.mounted.isSome &&
    s.mounted = c.wheelId && s.fits code c.e

/-- A graphic code in the struck region: a fill, else an overstrike, else refused (R29). -/
def State.strikeOver (code : Byte) (s : State) : Option State :=
  match s.line.cells[s.line.cursor]?.filter (s.fillable code) with
  | some g => s.fillGap code g
  | none =>
    match (cellBefore s.line.cells s.line.cursor).filter (s.overstrikable code) with
    | some c => s.overstrike code c
    | none => some s.click

/-- What a graphic code does on an OPEN line (R26, R27, R126). -/
def State.graphicOn (e : KeyEntry) (s : State) : Option State :=
  if s.line.liftingAtCursor then none
  else if (s.petalOf e.code).isNone then some s.click
  else match s.line.place with
    | .atEnd => s.appendGraphic e
    | .insert i => some (s.insertGraphic e i)
    | .struck => s.strikeOver e.code

/-- A graphic-code key is taken and makes, fills or overstrikes a GLYPH cell, wraps, or is refused
(R26). -/
def execGraphicCode (s : State) : Host.Outcome State Fault Refusal :=
  .next (s.examine .graphic fun e t => t.onNewLine e (State.graphicOn e))

/-! ## SPACE and TAB (R26 to R31, R36, R38, R52, R62) -/

/-- The releases that the SPACE or TAB cell at an index brings: its terminator in WORD typing (R31), or
the close of an aligned run (R38). -/
def State.terminate (closes : Bool) (i : Nat) (s : State) : State :=
  if closes then
    (match s.settings.mode with
      | .line => s
      | _ => s.releaseAll)
  else if s.settings.mode = .word && !s.line.format.isPlaced then s.startRun (i + 1) .none
  else s

/-- A SPACE or TAB cell appended at the end: at once in DIRECT typing, closing an open aligned run, as a
terminator in WORD typing; none where it stalls (R24, R28, R30, R31, R38). -/
def State.appendBlank (code : Byte) (c : Cell) (s : State) : Option State :=
  let n := s.line.cells.length
  if s.releasesAtOnce then
    let t := s.make code n c State.releaseAll
    if t.line.run.isSome && s.strikeFree < (s.releasePlan c).length then none else some t
  else
    match s.closeAligned.place n c with
    | none => some s.click
    | some _ => some (if s.line.full then s.refuseFull code
        else s.closeAligned.make code n c (State.terminate s.text.aligned.isSome n))

/-- A SPACE or TAB cell inserted at an index is inside the open aligned run (R61). -/
def State.insideRun (s : State) (i : Nat) : Bool :=
  match s.text.aligned with
  | some a => ((cellIndex a.tabCell s.line.cells).map fun j => decide (j < i)).getD false
  | none => false

/-- A SPACE or TAB cell inserted into the pending region (R28, R31; log entry 18). -/
def State.insertBlank (code : Byte) (i : Nat) (c : Cell) (s : State) : State :=
  s.make code i c fun t => if s.insideRun i then t else t.terminate false i

/-- The overflow space: appended past R with its underline cleared, up to 1560 (R36). -/
def State.overflowSpace (code : Byte) (c : Cell) (s : State) : State :=
  if Config.rightEnd < c.x + c.e then s.click
  else if s.line.full then s.refuseFull code
  else
    let n := s.line.cells.length
    ((s.insertCell n { c with underline := false }).bellAfter s.line.endPos).terminate false n

/-- What SPACE does on an OPEN line (R26, R27, R36, R126). Past R it is an overflow space wherever the
conditions of a wrap hold, whatever the checks R34 then makes of a graphic key would say (log entry
47). -/
def State.spaceOn (e : KeyEntry) (s : State) : Option State :=
  if s.line.liftingAtCursor then none
  else match s.line.place with
    | .atEnd =>
      let x := s.line.endPos
      let c := s.newCell .space none x s.spaceE
      if s.wraps && s.settings.right < x + c.e then some (s.overflowSpace e.code c)
      else s.appendBlank e.code c
    | .insert i =>
      let x := (s.line.cells[i]?.map (·.x)).getD s.line.endPos
      some (s.insertBlank e.code i (s.newCell .space none x s.spaceE))
    | .struck => some s.click

/-- The SPACE key is taken and makes a SPACE cell, a terminator or an overflow space (R31). -/
def execSpace (s : State) : Host.Outcome State Fault Refusal :=
  .next (s.examine .space fun e t => t.onNewLine e (State.spaceOn e))

/-- What TAB does on an OPEN line (R26, R27, R52, R126). -/
def State.tabOn (e : KeyEntry) (s : State) : Option State :=
  if s.line.liftingAtCursor then none
  else match s.line.place with
    | .atEnd =>
      let x := s.line.endPos
      match s.findStop x with
      | none => some s.click
      | some t => s.appendBlank e.code (s.newCell .tab none x (t - x))
    | .insert i =>
      let x := (s.line.cells[i]?.map (·.x)).getD s.line.endPos
      match s.findStop x with
      | none => some s.click
      | some t => some (s.insertBlank e.code i (s.newCell .tab none x (t - x)))
    | .struck => some s.click

/-- The TAB key is taken and makes a TAB cell reaching to the next stop (R26, R52). -/
def execTab (s : State) : Host.Outcome State Fault Refusal :=
  .next (s.examine .tab fun e t => t.onNewLine e (State.tabOn e))

/-! ## DECIMAL_TAB (R38, R60) -/

/-- An aligned run opens after the TAB cell just made at an index, aimed at a stop; the cells before it
are released by the typing mode (R38, R60, R62). -/
def State.openAligned (closed : Bool) (i stop : Nat) (s : State) : State :=
  let t := { s with text := { s.text with
    aligned := s.line.cells[i]?.map fun c : Cell => ⟨c.id, stop⟩ } }
  match t.settings.mode with
  | .word => t.startRun i .none
  | .direct => if closed then t.startRun i .none else t
  | .line => t

/-- What DECIMAL_TAB does on an OPEN line (R27, R38, R60, R126). -/
def State.decimalOn (e : KeyEntry) (s : State) : Option State :=
  if s.line.liftingAtCursor then none
  else if s.line.cursor < s.line.cells.length || s.line.format.isPlaced then some s.click
  else
    let x := s.line.endPos
    let n := s.line.cells.length
    match s.findStop x with
    | none => some s.click
    | some stop =>
      some (if s.line.full then s.refuseFull e.code
        else s.closeAligned.make e.code n (s.newCell .tab none x (stop - x))
          (State.openAligned s.text.aligned.isSome n stop))

/-- The DECIMAL_TAB key is taken, makes a TAB cell and opens an aligned run (R38). -/
def execDecimalTab (s : State) : Host.Outcome State Fault Refusal :=
  .next (s.examine .decimalTab fun e t => t.onNewLine e (State.decimalOn e))

end Sys2Proof.Machine
end

