-- ==== Sys2Proof/Machine/Editing.lean ====
section
/-! DEFINITION. The other keys: line-moving (R33, R46, R47), cursor (R40, R41), correction (R39, R124 to
R139), word (R155, R156), layout (R37, R42 to R44) and attribute keys (R42, R48). -/

namespace Sys2Proof.Machine

/-! ## RETURN (R33) -/

/-- The whole line is to be released: the end is closed, an open aligned run closes, and a CENTER or
FLUSH_RIGHT line is placed (R33, R46, R142). -/
def State.endOfLine (s : State) : State :=
  let t := s.closeAligned.placeWhole
  { t with spell := { t.spell with endClosed := true } }

/-- What RETURN does on an OPEN line: RETURN_WAIT, and a run with b = n and ending RETURN (R16, R33). -/
def State.returnOn (s : State) : Option State :=
  let t := s.endOfLine
  some (({ t with line := { t.line with state := .returnWait } } : State).startRun
    t.line.cells.length .ret)

/-- The RETURN key is taken and ends the line (R33). -/
def execReturn (s : State) : Host.Outcome State Fault Refusal :=
  .next (s.examine .returnKey fun e t => t.onNewLine e State.returnOn)

/-! ## INDEX and REVERSE_INDEX (R46) -/

/-- The line is closed and the next opened at its end position with v unchanged (R18, R46). -/
def State.indexLine (s : State) : State := s.closeLine.openLine s.line.endPos s.line.v

/-- INDEX or REVERSE_INDEX acts on a settled line: the FEED follows the new line (R46). -/
def State.indexOn (sign : Int) (s : State) : Option State :=
  let t := if s.line.state = .returned then s.nextLine else s.indexLine
  t.withRoom (feedEntry (sign * t.settings.spacing.steps) t.line.v)

/-- An OPEN line that holds PENDING cells is ended without taking the key: placed and released as by
RETURN, with ending NONE (R46). -/
def State.prepareIndex (s : State) : State :=
  let t := s.endOfLine
  t.startRun t.line.cells.length .none

/-- The examination of INDEX or REVERSE_INDEX (R25, R46). A key left at the head is judged afresh at each
examination, and refused where a PENDING cell has come to belong to a held word (log entry 41). A CENTER or
FLUSH_RIGHT line with no PENDING cell is closed as it stands (log entry 54), and so is in HOLD a line with no
PENDING cell whose WAITING, LOOKING or unaccepted UNKNOWN record stands: R46's refusal is followed, not the
wider words of R154 (the model's choice, log entry 58). -/
def State.examineIndex (k : KeyKind) (sign : Int) (s : State) : State :=
  s.examine k fun e t =>
    match t.line.state with
    | .returnWait => some (t.refuseLost e)
    | .returned => t.indexOn sign
    | .open =>
      if t.line.settled then (if t.line.run.isNone then t.indexOn sign else none)
      else if t.effMode = .hold && t.pendingHeldWord then some (t.refuseLost e)
      else none

/-- INDEX or REVERSE_INDEX at its first examination ends a line with PENDING cells and stays at the head
(R46), refused only where one of them belongs to a held word (log entry 58). -/
def State.endsForIndex (s : State) (k : KeyKind) : Bool :=
  s.live && (s.dueHead k).isSome && !s.keyHeld k && s.line.state = .open && !s.line.settled &&
    !(s.effMode = .hold && s.pendingHeldWord)

/-- The INDEX key is taken and ends the line, appending a FEED of one spacing down (R46). -/
def execIndex (s : State) : Host.Outcome State Fault Refusal :=
  .next (if s.endsForIndex .index then s.keyStays.prepareIndex.conclude s
    else s.examineIndex .index 1)

/-- The REVERSE_INDEX key is taken and ends the line, appending a FEED of one spacing up (R46). -/
def execReverseIndex (s : State) : Host.Outcome State Fault Refusal :=
  .next (if s.endsForIndex .reverseIndex then s.keyStays.prepareIndex.conclude s
    else s.examineIndex .reverseIndex (-1))

/-! ## HALF_UP and HALF_DOWN (R47) -/

/-- v changes by half a line, within −8 to +8, and a FEED follows (R47). -/
def State.halfLine (d : Int) (s : State) : Option State :=
  let v := s.line.v + d
  if -8 ≤ v ∧ v ≤ 8 then
    ({ s with line := { s.line with v := v } } : State).withRoom (feedEntry d v)
  else some s.click

/-- The HALF_UP key is taken (R47). -/
def execHalfUp (s : State) : Host.Outcome State Fault Refusal :=
  .next (s.examine .halfUp fun e t => t.onNewLine e (State.halfLine (-4)))

/-- The HALF_DOWN key is taken (R47). -/
def execHalfDown (s : State) : Host.Outcome State Fault Refusal :=
  .next (s.examine .halfDown fun e t => t.onNewLine e (State.halfLine 4))

/-! ## Cursor keys (R40, R41) -/

/-- The position a cursor stands before: the x of its cell, or the end position (R40). -/
def Line.cursorX (l : Line) (c : Nat) : Nat :=
  match l.cells[c]? with
  | some k => k.x
  | none => l.endPos

/-- The cursor moves over a cell to a new place; in DIRECT typing a MOVE follows it over a cell that is
not PENDING (R40). -/
def State.moveCursor (passed new : Nat) (s : State) : Option State :=
  let t := s.setCursor new
  match s.line.cells[passed]? with
  | some c =>
    if s.settings.mode = .direct && c.state ≠ .pending then
      t.withRoom (t.moveEntry (t.line.cursorX new))
    else some t
  | none => some t

/-- What BACKSPACE does; at c = 0 nothing (R40). -/
def State.backspaceOn (s : State) : Option State :=
  if s.line.cursor = 0 then some s else s.moveCursor (s.line.cursor - 1) (s.line.cursor - 1)

/-- The BACKSPACE key is taken (R40). -/
def execBackspace (s : State) : Host.Outcome State Fault Refusal :=
  .next (s.examine .backspace fun _ t => t.onThisLine State.backspaceOn)

/-- What FORWARD does; at c = n nothing (R40). -/
def State.forwardOn (s : State) : Option State :=
  if s.line.cells.length ≤ s.line.cursor then some s
  else s.moveCursor s.line.cursor (s.line.cursor + 1)

/-- The FORWARD key is taken (R40). -/
def execForward (s : State) : Host.Outcome State Fault Refusal :=
  .next (s.examine .forward fun _ t => t.onThisLine State.forwardOn)

/-- What RELOCATE does: the cursor at the end, and a MOVE to the end position (R41). -/
def State.relocateOn (s : State) : Option State :=
  let t := s.setCursor s.line.cells.length
  t.withRoom (t.moveEntry t.line.endPos)

/-- The RELOCATE key is taken (R41). -/
def execRelocate (s : State) : Host.Outcome State Fault Refusal :=
  .next (s.examine .relocate fun _ t => t.onThisLine State.relocateOn)

/-! ## Corrections (R124, R136) -/

/-- A correction key by what its first correction comes to; none where it waits (R125, R130). -/
def State.correctOn (s : State) : Option State :=
  match s.correction with
  | .acts t => some t
  | .waits => none
  | .refused t => some t

/-- The CORRECT key is taken and makes one correction (R124). -/
def execCorrect (s : State) : Host.Outcome State Fault Refusal :=
  .next (s.examine .correct fun _ t => t.correctOn)

/-- An erase: its first correction, then the rest while it is held (R136, R137). -/
def State.eraseOn (k : EraseKind) (s : State) : Option State :=
  match s.correction with
  | .waits => none
  | .refused t => some t
  | .acts t =>
    some (({ t with text := { t.text with erase := some ⟨k, s.line.eraseStop k⟩ } } : State
      ).eraseLoop (2 * Config.cellPlaces))

/-- The WORD_ERASE key is taken (R136). -/
def execWordErase (s : State) : Host.Outcome State Fault Refusal :=
  .next (s.examine .wordErase fun _ t => t.eraseOn .word)

/-- The LINE_ERASE key is taken (R136). -/
def execLineErase (s : State) : Host.Outcome State Fault Refusal :=
  .next (s.examine .lineErase fun _ t => t.eraseOn .line)

/-! ## Word keys (R155, R156) -/

/-- The ACCEPT_WORD key is taken (R155). -/
def execAcceptWord (s : State) : Host.Outcome State Fault Refusal :=
  .next (s.examine .acceptWord fun _ t =>
    match t.wordTarget with
    | none => some t.click
    | some r => some (t.accept r))

/-- The ADD_WORD key is taken (R156). -/
def execAddWord (s : State) : Host.Outcome State Fault Refusal :=
  .next (s.examine .addWord fun _ t =>
    match t.wordTarget with
    | none => some t.click
    | some r => some (t.addTarget r))

/-! ## Layout keys (R37, R42 to R44) -/

/-- CENTER or FLUSH_RIGHT sets the format of an empty record (R37). -/
def State.setFormat (f : Format) (s : State) : Option State :=
  if s.line.cells.isEmpty then some { s with line := { s.line with format := f } } else some s.click

/-- The CENTER key is taken (R37). -/
def execCenter (s : State) : Host.Outcome State Fault Refusal :=
  .next (s.examine .center fun e t => t.onNewLine e (State.setFormat .center))

/-- The FLUSH_RIGHT key is taken (R37). -/
def execFlushRight (s : State) : Host.Outcome State Fault Refusal :=
  .next (s.examine .flushRight fun e t => t.onNewLine e (State.setFormat .flushRight))

/-- Margin release is turned on or off (R42). -/
def State.toggleRelease (s : State) : Option State :=
  some { s with text := { s.text with marginRelease := !s.text.marginRelease } }

/-- The MARGIN_RELEASE key is taken (R42). -/
def execMarginRelease (s : State) : Host.Outcome State Fault Refusal :=
  .next (s.examine .marginRelease fun e t => t.onNewLine e State.toggleRelease)

/-- A setting is changed by a key where its check passes, else the key is refused (R43, R44). -/
def State.setOrClick (ok : Bool) (f : Settings → Settings) (s : State) : Option State :=
  some (if ok then s.writeSettings f else s.click)

/-- The SET_LEFT key is taken (R43). -/
def execSetLeft (s : State) : Host.Outcome State Fault Refusal :=
  .next (s.examine .setLeft fun e t => t.onNewLine e fun t =>
    t.setOrClick (marginsOk t.line.endPos t.settings.right) fun q =>
      { q with left := t.line.endPos })

/-- The SET_RIGHT key is taken (R43). -/
def execSetRight (s : State) : Host.Outcome State Fault Refusal :=
  .next (s.examine .setRight fun e t => t.onNewLine e fun t =>
    t.setOrClick (marginsOk t.settings.left t.line.endPos) fun q =>
      { q with right := t.line.endPos })

/-- TAB_SET is allowed at a position (R44). -/
def stopAllowed (tabs : List Nat) (x : Nat) : Bool :=
  decide (tabs.length < Config.tabPlaces) && !tabs.contains x && decide (x ≠ Config.rightEnd)

/-- The TAB_SET key is taken (R44). -/
def execTabSet (s : State) : Host.Outcome State Fault Refusal :=
  .next (s.examine .tabSet fun e t => t.onNewLine e fun t =>
    t.setOrClick (stopAllowed t.settings.tabs t.line.endPos) fun q =>
      { q with tabs := insertStop t.line.endPos q.tabs })

/-- The TAB_CLEAR key is taken (R44). -/
def execTabClear (s : State) : Host.Outcome State Fault Refusal :=
  .next (s.examine .tabClear fun e t => t.onNewLine e fun t =>
    t.setOrClick (t.settings.tabs.contains t.line.endPos) fun q =>
      { q with tabs := q.tabs.filter (· ≠ t.line.endPos) })

/-! ## Attribute keys (R42, R48) -/

/-- The BOLD key is taken (R42). -/
def execBold (s : State) : Host.Outcome State Fault Refusal :=
  .next (s.examine .bold fun _ t => some { t with text := { t.text with bold := !t.text.bold } })

/-- The UNDERLINE key is taken (R42). -/
def execUnderline (s : State) : Host.Outcome State Fault Refusal :=
  .next (s.examine .underline fun _ t =>
    some { t with text := { t.text with underline := !t.text.underline } })

/-- The PRINT_HOLD key is taken: a pause when the flag is clear, a continue when it is set (R48,
R87). -/
def execPrintHold (s : State) : Host.Outcome State Fault Refusal :=
  .next (s.examine .printHold fun _ t => some { t with seq := { t.seq with pause := !t.seq.pause } })

/-- A code that stands for no key is taken and refused with CLICK and no notice (R22). -/
def execUnknownKeyCode (s : State) : Host.Outcome State Fault Refusal :=
  .next (s.examine .unknown fun _ t => some t.click)

end Sys2Proof.Machine
end

