-- ==== Sys2Proof/Machine/Start.lean ====
section
/-! DEFINITION. Starts and rest (R187, R20, R49, R92 and the reset values of every chapter), the end of
a start-up (R188, R189), and the commands of power and the RESET pin. -/

namespace Sys2Proof.Machine

/-! ## Starts (R187) -/

/-- Every block at the value its chapter gives after a start, its settings read from the Retained Area,
and the four parts of the start-up begun (R187, R188). -/
def State.started (kind : StartKind) (s : State) : State :=
  { pending := s.pending,
    power := s.power,
    link := .start,
    keys := [],
    line := .opened s.retained.settings.left 0 s.retained.settings.format,
    text := .start,
    settings := s.retained.settings,
    strikes := ⟨[], 0⟩,
    seq := .start kind,
    carrier := .start s.inputs.carrierHome.raw,
    wheel := .start,
    platen := .start,
    hammer := .start,
    ribbon := .start,
    inputs := ⟨.start s.inputs.cover.raw, .start s.inputs.paper.raw, .start s.inputs.ribbonEnd.raw,
      .start s.inputs.tapeEnd.raw, .start s.inputs.carrierHome.raw, .start s.inputs.hammerHome.raw,
      false, false⟩,
    spell := .start,
    display := .start,
    tone := ⟨none, none⟩,
    notices := .start s.retained.mask,
    retained := s.retained }

/-- A warm start, with its render (R159, R187). -/
def State.warmStart (s : State) : State := (s.started .warm).render

/-- The defaults of the Retained Area are loaded, the marker last (R186, R187). -/
def State.loadDefaults (s : State) : State := { s with retained := .default }

/-- A cold start, with its render (R159, R187). -/
def State.coldStart (s : State) : State := (s.loadDefaults.started .cold).render

/-- The part is held at rest: no drive is powered, the link lines stand at their reset levels and
nothing is received or sent (R187; log entry 8). -/
def State.atRest (s : State) : State :=
  { s with
    link := { s.link with
      receiver := .hunt, transmitter := .idle, busyLine := false, alertLow := false },
    carrier := { s.carrier with move := .none },
    wheel := { s.wheel with ident := .idle, holding := none, move := none },
    platen := { s.platen with move := none },
    hammer := { s.hammer with request := none, pulse := none },
    ribbon := { s.ribbon with
      sensing := none, ribbonUp := false, tapeUp := false, advance := 0 },
    spell := { s.spell with port := .idle },
    display := { s.display with sending := false },
    tone := ⟨none, none⟩ }

/-! ## The end of a start-up (R188, R189) -/

/-- The header reads have both ended (R152). -/
def Spelling.headersRead (sp : Spelling) : Bool := sp.main ≠ .notRead && sp.supplement ≠ .notRead

/-- The four parts have ended (R188). -/
def State.partsEnded (s : State) (u : StartUp) : Bool :=
  u.carrierDone && u.wheelDone && u.sensingDone && s.spell.headersRead

/-- The number of a start kind (R185). -/
def StartKind.number : StartKind → Nat
  | .cold => 0 | .warm => 1

/-- The start-up is complete: IDLE, the line open at the left margin in force (R18, R20), READY, and an
event of R23; the decision of R75 follows (R188). -/
def State.ready (u : StartUp) (s : State) : State :=
  ((({ s with seq := { s.seq with mech := .idle, startup := none } } : State).openLine
    s.settings.left 0).raise .ready [byteOf u.kind.number]).noteR23

/-- A part of the start-up has ended: with all ended and no fault held the start-up is complete
(R188). -/
def State.checkReady (s : State) : State :=
  match s.seq.startup with
  | some u => if s.seq.mech = .starting && s.partsEnded u then s.ready u else s
  | none => s

/-- A field of the start-up in progress is changed. -/
def State.mapStartup (f : StartUp → StartUp) (s : State) : State :=
  { s with seq := { s.seq with startup := s.seq.startup.map f } }

/-- The homing of a RESUME has succeeded: the fault clears, CLEARED is raised and a repeating ALARM
stops; a start-up is completed or goes on (R90, R171, R189). -/
def State.recovered (s : State) : State :=
  let t := ((({ s with seq := { s.seq with recovering := false, fault := none } } : State).stopAlarm
    ).raise .cleared [1]).mapStartup fun u => { u with carrierDone := true, wheelDone := true }
  match t.seq.startup with
  | some u => if t.partsEnded u then t.ready u else t.setMech .starting
  | none => t.toBoundary

/-! ## Commands -/

/-- POWER_UP: main power comes up and a start is made, cold if the marker is invalid and warm if it is
valid (R187). With the RESET pin low the part is then held at rest (log entry 9). -/
def execPowerUp (s : State) : Host.Outcome State Fault Refusal :=
  if s.power.mainUp then .next s
  else
    let t := { s with power := { s.power with mainUp := true } }
    let t := if t.retained.marker then t.warmStart else t.coldStart
    .next (if t.power.resetLow then t.atRest else t)

/-- MAIN_POWER_FAIL: main power falls below its working level and the part is held at rest; the
Retained Area stays (R186, R187). -/
def execMainPowerFail (s : State) : Host.Outcome State Fault Refusal :=
  .next (({ s with power := { s.power with mainUp := false } } : State).atRest)

/-- RESET_PIN_ASSERT: the pin goes low and the part is held at rest (R187). -/
def execResetPinAssert (s : State) : Host.Outcome State Fault Refusal :=
  .next (({ s with power := { s.power with resetLow := true } } : State).atRest)

/-- RESET_PIN_RELEASE: the pin returns high and a warm start is made (R187). -/
def execResetPinRelease (s : State) : Host.Outcome State Fault Refusal :=
  if s.power.resetLow then
    let t := { s with power := { s.power with resetLow := false } }
    .next (if t.power.mainUp then t.warmStart else t)
  else .next s

/-- BACKUP_SUPPLY_LOST: a Retained Area that has lost its backup supply holds an invalid marker (R186;
log entry 10). -/
def execBackupSupplyLost (s : State) : Host.Outcome State Fault Refusal :=
  .next { s with retained := { s.retained with marker := false } }

end Sys2Proof.Machine
end

