-- ==== Sys2Proof/Machine/Periphery.lean ====
section
/-! DEFINITION. The commands of the Dictionary Port, the display and the tones: DICT_READ_COMPLETE,
BLINK_TOGGLE, MESSAGE_EXPIRY, DISPLAY_SEND_COMPLETE, TONE_COMPLETE. -/

namespace Sys2Proof.Machine

/-- A read of the Dictionary Port has ended (R151): a header (R152), or a bucket (R150). -/
def State.dictRead (data : List Byte) (s : State) : State :=
  match s.spell.port with
  | .idle => s
  | .header rom => (s.headerRead rom data).checkReady
  | .bucket rom _ => s.bucketRead rom data

/-- DICT_READ_COMPLETE: a Dictionary Port read ends with its select released (R151). -/
def execDictReadComplete (data : List Byte) (s : State) : Host.Outcome State Fault Refusal :=
  .next (if s.live && s.spell.port.takes = some data.length then (s.dictRead data).conclude s else s)

/-- BLINK_TOGGLE: the blink phase toggles, the timer starts again, and a render is made (R162). -/
def execBlinkToggle (s : State) : Host.Outcome State Fault Refusal :=
  .next (if s.live then
      ({ s with display := { s.display with
          phaseOn := !s.display.phaseOn, blinkTimer := Config.blinkPeriod } } : State).render
    else s)

/-- MESSAGE_EXPIRY: the slot is emptied, the timer stops, and a render is made (R164). -/
def execMessageExpiry (s : State) : Host.Outcome State Fault Refusal :=
  .next (if s.live && s.display.slotTimer.isSome then
      ({ s with display := { s.display with slot := none, slotTimer := none } } : State).render
    else s)

/-- The port has sent CURRENT: NEXT is handed over when GO is set, else the port becomes idle
(R168). -/
def Display.sent (d : Display) : Display :=
  if d.go then { d with current := d.next, go := false } else { d with sending := false }

/-- DISPLAY_SEND_COMPLETE: the send of CURRENT ends (R168). -/
def execDisplaySendComplete (s : State) : Host.Outcome State Fault Refusal :=
  .next (if s.live && s.display.sending then { s with display := s.display.sent } else s)

/-- TONE_COMPLETE: the sounding tone reaches the end of its pattern; an ALARM with the repeat flag runs
on (R171). -/
def execToneComplete (s : State) : Host.Outcome State Fault Refusal :=
  .next (if s.live then
      match s.tone.sounding with
      | some t => if t.repeating then s else { s with tone := s.tone.endSounding }
      | none => s
    else s)

end Sys2Proof.Machine
end

