-- ==== Sys2Proof/Machine/Change.lean ====
section
/-! DEFINITION. The wheel change procedure (R103 to R105). -/

namespace Sys2Proof.Machine

/-- A SPACE or TAB in state STRUCK that its release made so directly, with nothing on paper (R103). -/
def Cell.entryLess (c : Cell) : Bool :=
  c.state = .struck && (c.kind = .tab || (c.kind = .space && !c.underline))

/-- A cell of the run at the end of the line that may return (R103). -/
def Cell.mayReturn (c : Cell) : Bool :=
  c.state = .pending || (c.state = .queued && c.prior.isNone) || c.entryLess

/-- The index at which the returned region begins: the first QUEUED cell of the run at the end of the
line, or the first PENDING cell when the run holds none (R103). -/
def Line.returnedFrom (l : Line) : Nat :=
  let from' := l.cells.length - (l.cells.reverse.takeWhile Cell.mayReturn).length
  let q := ((l.cells.drop from').findIdx fun c => c.state = .queued) + from'
  if q < l.cells.length then q else l.firstPending

/-- A cell of the returned region becomes PENDING; a QUEUED one loses its wheel id and energy (R12,
R103). -/
def Cell.toPending (c : Cell) : Cell :=
  if c.state = .queued then { c with state := .pending, wheelId := none, energy := none }
  else { c with state := .pending }

/-- The cells from an index on become PENDING. -/
def returnCells (i : Nat) (cells : List Cell) : List Cell :=
  cells.take i ++ (cells.drop i).map Cell.toPending

/-- The release groups of the region are withdrawn and its cells become PENDING; a RETURNED line goes
back to RETURN_WAIT, and otherwise the boundary is kept (R103). -/
def State.returnRegion (i : Nat) (s : State) : State :=
  let ids := ((s.line.cells.drop i).filter fun c => c.state = .queued).map (·.id)
  if ids.isEmpty then s
  else
    let b := s.line.firstPending
    let t := s.withdraw fun e => (e.cell.map ids.contains).getD false
    let t := t.setCells (returnCells i t.line.cells)
    if s.line.state = .returned then
      let t := t.withdrawReturn
      { t with line := { t.line with
          state := .returnWait, v := t.line.baselineOff.getD 0, baselineOff := none,
          returnFeed := none, returnId := none, run := some ⟨t.line.cells.length, .ret⟩ } }
    else t.startRun b .none

/-- The code of the glyph a withdrawn fill or overstrike would have struck (R104). -/
def Cell.unstruckCode (c : Cell) : Byte :=
  match c.prior with
  | some .struck => c.overCode.getD 0
  | _ => c.code.getD 0

/-- A fill or overstrike group not begun is withdrawn; a LIFT group of another wheel not begun is
withdrawn and refused (R104). -/
def State.undoOutside (c : Cell) (s : State) : State :=
  if s.cellBegun c.id then s
  else match c.state, c.prior with
    | .queued, some p =>
      ((s.withdrawCell c.id).mapCell c.id fun c => c.restore p).raiseDropped 1 c.unstruckCode
    | .lifting, _ =>
      if c.wheelId = some s.wheel.id then s
      else ((s.withdrawCell c.id).mapCell c.id fun c => { c with state := .struck }).raiseLiftRefused
        .wheelChanged c.liftCode
    | _, _ => s

/-- A GLYPH cell of the region whose code has no petal on the new wheel leaves the record (R105). -/
def State.dropIfMissing (c : Cell) (s : State) : State :=
  if c.kind = .glyph && (s.petalOf (c.code.getD 0)).isNone then
    match cellIndex c.id s.line.cells with
    | some i => (s.removeCell i).raiseDropped 0 c.dropCode
    | none => s
  else s

/-- The PENDING cells are placed again by the wheel in force (R105). -/
def State.replaceWheel (s : State) : State :=
  s.setCells (s.line.released ++ placeWheel s (runWidth s.text.aligned s.freshE s.line.cells)
    s.line.tailStart s.line.tail)

/-- While the end position would pass 1560 the last cell is removed, an open aligned run placed again
without it (R61, R105). -/
def State.dropPastEnd : Nat → State → State
  | 0, s => s
  | f + 1, s =>
    match s.line.cells.getLast? with
    | some c =>
      if Config.rightEnd < s.line.endPos then
        (((s.removeCell (s.line.cells.length - 1)).raiseDropped 1 c.dropCode).replaceWheel).dropPastEnd f
      else s
    | none => s

/-- The RETURN of the line has been taken and its run has not ended (R105). -/
def Line.returning (l : Line) : Bool := l.state = .returnWait

/-- The wheel change procedure (R103 to R105). It runs in the event of the read, after the new id is in
force; the run examination follows with the event's other edits. Groups are undone, and cells with no petal
dropped, from left to right (log entry 56). The bell is judged on the re-placement
(R45), and whole-line placement sounds none (log entry 19). -/
def State.wheelChange (s : State) : State :=
  let i := s.line.returnedFrom
  let t := s.returnRegion i
  let t := t.line.cells.foldl (fun t c => t.undoOutside c) t
  let t := (t.line.cells.drop i).foldl (fun t c => t.dropIfMissing c) t
  let t := (t.replaceWheel.dropPastEnd Config.cellPlaces).bellAfter t.line.endPos
  if t.line.returning && i = 0 then t.placeWhole else t

end Sys2Proof.Machine
end

