-- ==== Sys2Proof/Machine/Strokes.lean ====
section
/-! DEFINITION. The commands of one entry's stages (R76 to R82, R115 to R122), of the release run, the
erase and the encoder: RELEASE_RUN_STEP, ERASE_STEP, CARRIER_MOVE_COMPLETE, WHEEL_ROTATION_COMPLETE,
PLATEN_MOTION_COMPLETE, FIRE, PULSE_END, SETTLE_END, ADVANCE_END, DECAY_EVENT, ENCODER_MARK_PASSED. -/

namespace Sys2Proof.Machine

/-- RELEASE_RUN_STEP: the release run is examined again and takes as many steps as the conditions allow
(R14). -/
def execReleaseRunStep (s : State) : Host.Outcome State Fault Refusal :=
  .next (if s.live then ((s.runExamine).sequence).finish s else s)

/-- ERASE_STEP: the held erase takes up its next corrections (R137). -/
def execEraseStep (s : State) : Host.Outcome State Fault Refusal :=
  .next (if s.live then
      ({ s with text := { s.text with eraseDue := true } } : State).conclude s
    else s)

/-! ## Ends of motions -/

/-- The motions of a withdrawn head have run out: the sequencer reaches its boundary (R72). -/
def State.drained (s : State) : State :=
  if s.seq.draining && !s.inMotion then { s with seq := { s.seq with draining := false } } else s

/-- After the end of a motion: a withdrawn head's motions may have run out, or POSITION may end (R72,
R76). -/
def State.motionEnded (s : State) : State :=
  let t := s.drained
  match t.entry with
  | some e => t.positionEnd e
  | none => t

/-- Marks are added to the count, which saturates at 1600 (R93, R95). -/
def Carrier.addMarks (c : Carrier) (n : Nat) : Carrier :=
  { c with marks := min Config.markLimit (c.marks + n) }

/-- A move to a target ends: it is good, or it stalls (R95). -/
def Carrier.endMove (c : Carrier) (x : Nat) : Carrier × Bool :=
  if marksGood (expectedMarks c.pos x) c.marks then
    ({ c with pos := x, marks := 0, move := .none }, true)
  else ({ c with known := false, marks := 0, move := .none }, false)

/-- A homing and identification begins: it searches, with no failed reads (R98). A width left in the notch
holding is let go, and a rotation still in progress runs on (log entry 45). -/
def State.beginIdent (s : State) : State :=
  { s with wheel := { s.wheel with ident := .searching false, failedReads := 0, holding := none } }

/-- The carrier homing has ended well: the recovery goes on to the wheel; the carrier part of a start-up
has ended (R90, R94, R188). -/
def State.carrierHomed (s : State) : State :=
  if s.seq.recovering then s.beginIdent
  else (s.mapStartup fun u => { u with carrierDone := true }).checkReady

/-- The carrier homing has failed: CARRIER_HOME, the position unknown, the carrier part of a start-up
ended (R89, R94, R188). -/
def State.carrierHomeFailed (s : State) : State :=
  let t := { s with carrier := { s.carrier with known := false, marks := 0, move := .none } }
  (t.mapStartup fun u => { u with carrierDone := true }).takeFault .carrierHome

/-- The test position is removed and ADJUST is left for a boundary, an event of R23 (R193). -/
def State.leaveAdjust (s : State) : State :=
  (({ s with seq := { s.seq with
      testPos := none, testStrike := none, inFlight := none, stage := none, leaving := false } } : State
    ).toBoundary).noteR23

/-- The end of a move to a target: the leaving move of ADJUST, or a move of POSITION or of a withdrawn
head (R72, R76, R193). -/
def State.moveEnded (s : State) : State :=
  if s.seq.leaving then s.leaveAdjust else s.motionEnded

/-- CARRIER_MOVE_COMPLETE: the marks of the move are added and checked; a good move ends, a bad one is
CARRIER_STALL, or CARRIER_HOME on the third step of a homing (R94, R95). -/
def execCarrierMoveComplete (marks : Nat) (s : State) : Host.Outcome State Fault Refusal :=
  if !s.live then .next s
  else
    let c := s.carrier.addMarks marks
    match s.carrier.move with
    | .moving x =>
      let r := c.endMove x
      let t := { s with carrier := r.1 }
      .next ((if r.2 then t.moveEnded else t.takeFault .carrierStall).conclude s)
    | .homing (.toMargin x) =>
      let r := c.endMove x
      let t := { s with carrier := r.1 }
      .next ((if r.2 then t.carrierHomed else t.carrierHomeFailed).conclude s)
    | _ => .next s

/-- WHEEL_ROTATION_COMPLETE: the wheel angle is the target (R96). -/
def execWheelRotationComplete (s : State) : Host.Outcome State Fault Refusal :=
  if !s.live then .next s
  else match s.wheel.move with
    | none => .next s
    | some t =>
      .next ((({ s with wheel := { s.wheel with angle := t, move := none } } : State).motionEnded
        ).conclude s)

/-- The platen counter takes a value; beyond its range it takes a free value of that range (R106; log
entry 30). -/
def counterValue (i : Int) : Int :=
  if -2147483648 ≤ i ∧ i ≤ 2147483647 then i else (Config.platenBeyond i).toInt

/-- The platen stands at its target: the counter, the baseline and the typing offset follow (R77,
R106). -/
def State.platenArrived (m : PlatenMove) (s : State) : State :=
  { s with platen := { counter := counterValue m.target, move := none },
           seq := s.seq.afterPlaten m.target m.update }

/-- The platen of an entry in POSITION has arrived: for a striking entry and a MOVE the carrier and the
wheel now move (R76). -/
def State.afterPlatenMove (s : State) : State :=
  match s.entry with
  | some e =>
    if s.seq.stage = some .position && e.kind ≠ .ret && e.kind ≠ .feed then
      (s.moveAcross e).motionEnded
    else s.motionEnded
  | none => s.motionEnded

/-- PLATEN_MOTION_COMPLETE: the platen motion ends at its target (R76, R77, R106). -/
def execPlatenMotionComplete (s : State) : Host.Outcome State Fault Refusal :=
  if !s.live then .next s
  else match s.platen.move with
    | none => .next s
    | some m => .next ((s.platenArrived m).afterPlatenMove.conclude s)

/-! ## The stroke -/

/-- FIRE: the conditions of the heat rule are examined, and where they hold the waiting request is
granted and FIRE begins (R79, R117). -/
def execFire (s : State) : Host.Outcome State Fault Refusal :=
  .next (if s.live then s.tryFire.finish s else s)

/-- PULSE_END: the pulse ends; FIRE ends with it and SETTLE begins with the ribbon and tape lowered
(R80, R115). -/
def execPulseEnd (s : State) : Host.Outcome State Fault Refusal :=
  if s.live && s.hammer.pulse.isSome then
    let t := { s with
      hammer := { s.hammer with pulse := none },
      ribbon := { s.ribbon with ribbonUp := false, tapeUp := false } }
    .next ((if s.seq.stage = some .fire then t.setStage (some .settle) else t).finish s)
  else .next s

/-- SETTLE_END: the hammer home sensor is read as it stands; ADVANCE begins, or HAMMER is taken
(R80). -/
def execSettleEnd (s : State) : Host.Outcome State Fault Refusal :=
  if s.live && s.seq.stage = some .settle then
    match s.entry with
    | some e =>
      .next ((if s.inputs.hammerHome.raw then s.beginAdvance e else s.takeFault .hammer).conclude s)
    | none => .next s
  else .next s

/-- ADVANCE_END: the entry leaves the queue with its completion report (R81). -/
def execAdvanceEnd (s : State) : Host.Outcome State Fault Refusal :=
  if s.live && s.seq.stage = some .advance then .next (s.advanceDone.conclude s) else .next s

/-- The heat account sheds one; at 0 the timer stops (R116). -/
def Hammer.shed (h : Hammer) : Hammer :=
  { h with heat := h.heat - 1, decay := decide (1 < h.heat) }

/-- DECAY_EVENT: H falls by 1, the timer stops at 0, and a waiting request is examined (R116, R117). -/
def execDecayEvent (s : State) : Host.Outcome State Fault Refusal :=
  if s.live && s.hammer.decay then
    .next ((({ s with hammer := s.hammer.shed } : State).tryFire).finish s)
  else .next s

/-- ENCODER_MARK_PASSED: a mark passes while the carrier is not driven; it is kept in the mark count
(R95). -/
def execEncoderMarkPassed (s : State) : Host.Outcome State Fault Refusal :=
  if s.live && s.carrier.move = .none then .next { s with carrier := s.carrier.addMarks 1 }
  else .next s

end Sys2Proof.Machine
end

