-- ==== Sys2Proof/Machine/Sensors.lean ====
section
/-! DEFINITION. The commands of carrier homing (R94), wheel identification (R97 to R99), the condition
inputs (R108 to R110) and cartridge sensing (R119). -/

namespace Sys2Proof.Machine

/-! ## Carrier homing (R94) -/

/-- A carrier homing begins with its first step (R94). A carrier move still in progress is given up
unchecked (log entry 55). -/
def State.beginHoming (s : State) : State :=
  { s with carrier := { s.carrier with
      move := .homing (homingFirst s.inputs.carrierHome.qualified) } }

/-- HOMING_OFF_SWITCH_END: the 36 steps to the right are made, their marks not checked, and the search
begins (R94). -/
def execHomingOffSwitchEnd (s : State) : Host.Outcome State Fault Refusal :=
  if s.live && s.carrier.move = .homing .offSwitch then
    .next { s with carrier := { s.carrier with
      pos := min Config.lastPosition (s.carrier.pos + Config.offSwitchSteps), marks := 0,
      move := .homing .search } }
  else .next s

/-- CARRIER_HOME_FOUND: the switch closes; position 0 is established and the carrier moves to the left
margin (R94). A third step of no distance, its target 0, ends like any other at a CARRIER_MOVE_COMPLETE of
its own: R76's "complete at once" speaks of POSITION (the model's choice, log entry 23). -/
def execCarrierHomeFound (s : State) : Host.Outcome State Fault Refusal :=
  if s.live && s.carrier.move = .homing .search then
    .next { s with carrier :=
      { pos := 0, known := true, marks := 0,
        move := .homing (.toMargin (s.targetOf s.settings.left)) } }
  else .next s

/-- CARRIER_HOME_SEARCH_LIMIT: 1600 steps without the switch closing; CARRIER_HOME is taken (R94). -/
def execCarrierHomeSearchLimit (s : State) : Host.Outcome State Fault Refusal :=
  if s.live && s.carrier.move = .homing .search then
    .next ((({ s with carrier := { s.carrier with pos := s.carrier.pos - Config.markLimit } } : State
      ).carrierHomeFailed).conclude s)
  else .next s

/-! ## Identification (R97 to R99) -/

/-- The classes of a notch (R97). -/
inductive NotchClass where | glitch | narrow | wide | home | invalid
  deriving DecidableEq, Repr

/-- The class of a width in ticks (R97). -/
def notchClass (w : Nat) : NotchClass :=
  if w ≤ 1 then .glitch
  else if 4 ≤ w && w ≤ 9 then .narrow
  else if 12 ≤ w && w ≤ 20 then .wide
  else if 28 ≤ w && w ≤ 40 then .home
  else .invalid

/-- The identification has ended, for the cover-close work and the start-up (R109, R188). A width still in
the notch holding is let go (log entry 45). -/
def State.identOver (s : State) : State :=
  ({ s with
    wheel := { s.wheel with ident := .idle, holding := none },
    inputs := { s.inputs with coverIdent := false } } : State).mapStartup
      fun u => { u with wheelDone := true }

/-- A LIFT held for its wheel is let go when the read id is its own (R86). -/
def State.letLiftGo (id : Nat) (s : State) : State :=
  if s.strikes.entries.head?.bind (·.wheelId) = some id then
    { s with seq := { s.seq with liftHeld := false } }
  else s

/-- The end of an identification that took no fault: a recovery succeeds, a start-up may be complete
(R90, R188). -/
def State.identSettled (s : State) : State :=
  if s.seq.recovering then s.recovered else s.checkReady

/-- The wheel is turned to petal 0 at the end of a read. It stands past its data notches, so a rotation
begins even where the angle of the home notch is the target (R96, R98; log entry 24). -/
def State.turnToPetalZero (s : State) : State :=
  { s with wheel := { s.wheel with move := some (petalAngle 0 s.retained.wheelPhase) } }

/-- A read has given an id (R98, R99). -/
def State.readId (id : Nat) (s : State) : State :=
  let atStart := s.seq.startup.isSome
  let changed := id ≠ s.wheel.id
  let t := s.identOver
  let t := { t with wheel := { t.wheel with
      present := true, id := id, family := if changed then familyOf id else t.wheel.family } }
  let t := t.turnToPetalZero.letLiftGo id
  let t := if changed || atStart then
      t.raise .wheel [byteOf id, byteOf t.wheel.family, byteOf (bit (knownFamily id).isNone)]
    else t
  let t := if changed && !atStart then t.wheelChange else t
  t.identSettled

/-- The identification found no wheel (R98, R99). -/
def State.noWheelFound (s : State) : State :=
  let t := s.identOver
  ({ t with wheel := { t.wheel with present := false } } : State).identSettled

/-- The identification has failed with a fault (R98, R99). -/
def State.identFailed (code : FaultCode) (s : State) : State :=
  let t := s.identOver
  ({ t with wheel := { t.wheel with present := false } } : State).takeFault code

/-- A read is invalid: failed reads rises, and at 3 WHEEL_ID is taken; otherwise the search or, after
a home notch, the next read goes on (R98). -/
def State.readInvalid (next : Ident) (s : State) : State :=
  let n := s.wheel.failedReads + 1
  let t := { s with wheel := { s.wheel with failedReads := n, ident := next } }
  if 3 ≤ n then t.identFailed .wheelId else t

/-- A home notch: its trailing edge sets the angle to 0 and the known flag (R98). -/
def State.homeNotch (s : State) : State :=
  { s with wheel := { s.wheel with angle := 0, known := true } }

/-- The id of four data notches, most significant first (R98). -/
def idOf (values : List Bool) : Nat := values.foldl (fun n b => 2 * n + bit b) 0

/-- A data notch is read; the fourth ends the read (R98). -/
def State.dataNotch (values : List Bool) (b : Bool) (s : State) : State :=
  let vs := values ++ [b]
  if 4 ≤ vs.length then s.readId (idOf vs)
  else { s with wheel := { s.wheel with ident := .reading vs } }

/-- A classified notch advances the search or the read (R98). -/
def State.classified (k : NotchClass) (s : State) : State :=
  match s.wheel.ident, k with
  | .idle, _ => s
  | _, .glitch => s
  | .searching _, .home => { s.homeNotch with wheel := { s.homeNotch.wheel with ident := .reading [] } }
  | .searching _, _ => s
  | .reading vs, .narrow => s.dataNotch vs false
  | .reading vs, .wide => s.dataNotch vs true
  | .reading _, .home => s.homeNotch.readInvalid (.reading [])
  | .reading _, .invalid => s.readInvalid (.searching false)

/-- A notch measured while searching is a notch of the wheel, glitches aside (R98). -/
def Ident.noteWidth (i : Ident) (width : Nat) : Ident :=
  match i with
  | .searching seen => .searching (seen || 2 ≤ width)
  | i => i

/-- A width arrives while the holding is full: an overrun empties it, and a read in progress is invalid
(R97, R98). -/
def State.overrun (s : State) : State :=
  let t := { s with wheel := { s.wheel with holding := none } }
  match t.wheel.ident with
  | .reading _ => t.readInvalid (.searching false)
  | _ => t

/-- NOTCH_TRAILING_EDGE: a measured width goes into the notch holding, or is an overrun (R97). -/
def execNotchTrailingEdge (width : Nat) (s : State) : Host.Outcome State Fault Refusal :=
  if s.live && s.wheel.ident ≠ .idle then
    let t := { s with wheel := { s.wheel with ident := s.wheel.ident.noteWidth width } }
    match s.wheel.holding with
    | none => .next { t with wheel := { t.wheel with holding := some width } }
    | some _ => .next (t.overrun.conclude s)
  else .next s

/-- NOTCH_CLASSIFIED: the classifier takes the width from the holding and classifies it (R97, R98). -/
def execNotchClassified (s : State) : Host.Outcome State Fault Refusal :=
  if s.live && s.wheel.ident ≠ .idle then
    match s.wheel.holding with
    | none => .next s
    | some w =>
      let t := { s with wheel := { s.wheel with holding := none } }
      .next ((t.classified (notchClass w)).conclude s)
  else .next s

/-- SEARCH_REVOLUTION_LIMIT: 2 revolutions of searching have passed: no wheel where no notch was
measured, else WHEEL_HOME (R98). -/
def execSearchRevolutionLimit (s : State) : Host.Outcome State Fault Refusal :=
  if s.live then
    match s.wheel.ident with
    | .searching false => .next (s.noWheelFound.conclude s)
    | .searching true => .next ((s.identFailed .wheelHome).conclude s)
    | _ => .next s
  else .next s

/-! ## Condition inputs (R108 to R110) -/

/-- One input. -/
def Inputs.get (i : Inputs) : Input → InputState
  | .cover => i.cover | .paper => i.paper | .ribbonEnd => i.ribbonEnd | .tapeEnd => i.tapeEnd
  | .carrierHome => i.carrierHome | .hammerHome => i.hammerHome

/-- The inputs with one replaced. -/
def Inputs.set (i : Inputs) (k : Input) (v : InputState) : Inputs :=
  match k with
  | .cover => { i with cover := v } | .paper => { i with paper := v }
  | .ribbonEnd => { i with ribbonEnd := v } | .tapeEnd => { i with tapeEnd := v }
  | .carrierHome => { i with carrierHome := v } | .hammerHome => { i with hammerHome := v }

/-- The raw level changes: the timer starts at 8 ms where it differs from the qualified state, and is
stopped where it comes back to it (R108). -/
def InputState.change (i : InputState) (level : Bool) : InputState :=
  { raw := level, qualified := i.qualified, timing := level != i.qualified }

/-- RAW_LEVEL_CHANGE: the raw level of an input changes (R108). With the part at rest only the level
changes, no block watching it. -/
def execRawLevelChange (k : Input) (level : Bool) (s : State) : Host.Outcome State Fault Refusal :=
  let i := s.inputs.get k
  if i.raw = level then .next s
  else if s.live then .next { s with inputs := s.inputs.set k (i.change level) }
  else .next { s with inputs := s.inputs.set k { i with raw := level } }

/-- Where a carrier stands that was stopped after some steps of its move (R94, R95; log entry 14). -/
def stoppedPos (pos steps : Nat) : CarrierMove → Nat
  | .none => pos
  | .moving x => if pos ≤ x then pos + min steps (x - pos) else pos - min steps (pos - x)
  | .homing .offSwitch => min Config.lastPosition (pos + min steps Config.offSwitchSteps)
  | .homing .search => pos - steps
  | .homing (.toMargin x) => pos + min steps (x - pos)

/-- The carrier stops where it stands: its marks are cleared (R95). -/
def Carrier.stop (c : Carrier) (steps : Nat) : Carrier :=
  { c with pos := stoppedPos c.pos steps c.move, marks := 0, move := .none }

/-- Where a wheel stands that was stopped after some microsteps the shorter way; both ways equal, it
turns forward (R96). -/
def stoppedAngle (angle target steps : Nat) : Nat :=
  let fwd := (target + Config.wheelSteps - angle) % Config.wheelSteps
  if fwd ≤ Config.wheelSteps - fwd then (angle + min steps fwd) % Config.wheelSteps
  else (angle + Config.wheelSteps - min steps (Config.wheelSteps - fwd)) % Config.wheelSteps

/-- The wheel's rotation stops where it stands (R96). -/
def Wheel.stop (w : Wheel) (steps : Nat) : Wheel :=
  match w.move with
  | some t => { w with angle := stoppedAngle w.angle t steps, move := none }
  | none => w

/-- The platen stops where it stands (R106). -/
def Platen.stop (p : Platen) (steps : Nat) : Platen :=
  match p.move with
  | some m =>
    { counter := counterValue (if p.counter ≤ m.target then min m.target (p.counter + steps)
        else max m.target (p.counter - steps)),
      move := none }
  | none => p

/-- A carrier move in progress stops where it stands (R84, R95). -/
def State.stopCarrier (d : Driven) (s : State) : State :=
  { s with carrier := if s.carrier.move = .none then s.carrier else s.carrier.stop d.carrier }

/-- Every motion of the entry in POSITION stops where it stands (R84). -/
def State.stopMotions (d : Driven) (s : State) : State :=
  { s.stopCarrier d with wheel := s.wheel.stop d.wheel, platen := s.platen.stop d.platen }

/-- A carrier homing in progress is stopped, its position known flag cleared (R94, R109). -/
def State.stopHoming (steps : Nat) (s : State) : State :=
  match s.carrier.move with
  | .homing _ => { s with carrier := { s.carrier.stop steps with known := false } }
  | _ => s

/-- The work that an opening cover stops: homing, identification and sensing (R94, R98, R109, R119). The
angle known flag is cleared (R96) and a recovery ends (R90). A width still in the notch holding is let go,
and a rotation to petal 0 after a read runs on (log entry 45). -/
def State.stopWork (d : Driven) (s : State) : State :=
  let t := s.stopHoming d.carrier
  { t with
    wheel := { t.wheel with ident := .idle, holding := none, known := false },
    ribbon := { t.ribbon with sensing := none },
    inputs := { t.inputs with coverIdent := false, coverSense := false },
    seq := { t.seq with recovering := false } }

/-- The entry in POSITION or HEAT_WAIT is stopped by the opening cover (R84); a test strike is abandoned
unstruck, and a leaving move is stopped and ends ADJUST, a rotation to petal 0 running on (R192, R193; log
entry 45). -/
def State.stopEntry (d : Driven) (s : State) : State :=
  let waiting := s.seq.stage = some .position || s.seq.stage = some .heatWait
  if s.seq.leaving then (s.stopCarrier d).leaveAdjust
  else if waiting then
    let t := if s.seq.stage = some .position then s.stopMotions d else s
    let t := { t with hammer := { t.hammer with request := none } }
    if s.seq.testStrike.isSome then
      { t with seq := { t.seq with stage := none, inFlight := none, testStrike := none } }
    else t.setStage none
  else s

/-- The cover opens (R84, R109). -/
def State.coverOpens (d : Driven) (s : State) : State := (s.stopWork d).stopEntry d

/-- A sensing begins (R119). -/
def State.beginSensing (s : State) : State :=
  { s with ribbon := { s.ribbon with sensing := some ⟨none, 0, 0⟩ } }

/-- The cover closes: an identification and a sensing begin, and in STARTING the carrier homing begins
again (R109, R110, R189). -/
def State.coverCloses (s : State) : State :=
  let t := (s.beginIdent).beginSensing
  let t := { t with inputs := { t.inputs with coverIdent := true, coverSense := true } }
  if s.seq.mech = .starting then
    (t.beginHoming).mapStartup fun u =>
      { u with carrierDone := false, wheelDone := false, sensingDone := false }
  else t

/-- The effect of a qualified change (R109). -/
def State.qualifiedChange (k : Input) (d : Driven) (s : State) : State :=
  match k with
  | .cover => if s.inputs.cover.qualified then s.coverOpens d else s.coverCloses
  | .hammerHome => s.tryFire
  | _ => s

/-- QUALIFICATION_TIMER_EXPIRY: the qualified state takes the raw level and the change takes effect
(R108, R109). -/
def execQualificationTimerExpiry (k : Input) (d : Driven) (s : State) :
    Host.Outcome State Fault Refusal :=
  let i := s.inputs.get k
  if s.live && i.timing then
    let t := { s with inputs := s.inputs.set k ⟨i.raw, i.raw, false⟩ }
    .next ((if i.raw = i.qualified then t else t.qualifiedChange k d).conclude s)
  else .next s

/-! ## Sensing (R119) -/

/-- The ribbon kind the contacts tell (R119). -/
def ribbonOf (c : Contacts) : Option RibbonKind :=
  match c.ribbonA, c.ribbonB with
  | false, false => none
  | true, false => some .fabric
  | false, true => some .film
  | true, true => some .multi

/-- The tape kind the contacts tell (R119). -/
def tapeOf (c : Contacts) : Option TapeKind :=
  match c.tapeA, c.tapeB with
  | true, false => some .liftTape
  | false, true => some .coverTape
  | _, _ => none

/-- A sample is taken (R119). -/
def Sensing.sample (x : Sensing) (c : Contacts) : Sensing :=
  { last := some c, agreeing := if x.last = some c then x.agreeing + 1 else 1, taken := x.taken + 1 }

/-- Sensing ends on four samples that agree, or at the fiftieth (R119). -/
def Sensing.over (x : Sensing) : Bool := 4 ≤ x.agreeing || Config.sampleLimit ≤ x.taken

/-- Sensing ends with the kinds of the last sample, for the cover-close work and the start-up (R109,
R119, R188). -/
def State.sensingEnds (c : Contacts) (s : State) : State :=
  (({ s with
    ribbon := { s.ribbon with kind := ribbonOf c, tape := tapeOf c, sensing := none },
    inputs := { s.inputs with coverSense := false } } : State).mapStartup
      fun u => { u with sensingDone := true }).checkReady

/-- SENSING_SAMPLE: the four contacts are sampled together (R119). -/
def execSensingSample (c : Contacts) (s : State) : Host.Outcome State Fault Refusal :=
  match s.ribbon.sensing with
  | some x =>
    if !s.live then .next s
    else if (x.sample c).over then .next ((s.sensingEnds c).conclude s)
    else .next { s with ribbon := { s.ribbon with sensing := some (x.sample c) } }
  | none => .next s

end Sys2Proof.Machine
end

