-- ==== Sys2Proof/Machine/Requests.lean ====
section
/-! DEFINITION. The requests (R180 to R182) and the commands of the link (R172 to R179). -/

namespace Sys2Proof.Machine

/-! ## Settings (R180) -/

/-- SET_MARGINS sets both margins within the limits (R43, R180). -/
def State.doSetMargins (args : List Byte) (s : State) : Acted :=
  match wides args with
  | some [l, r] =>
    if marginsOk l r then (s.writeSettings fun t => { t with left := l, right := r }).answerDone
    else s.answer .badValue
  | _ => s.answer .badValue

/-- SET_TAB: the stop joins the list in its ascending place (R180). -/
def State.doSetTab (args : List Byte) (s : State) : Acted :=
  match wides args with
  | some [t] =>
    if Config.lastPosition < t then s.answer .badValue
    else if s.settings.tabs.contains t then s.answer .already
    else if Config.tabPlaces ≤ s.settings.tabs.length then s.answer .listFull
    else (s.writeSettings fun q => { q with tabs := insertStop t q.tabs }).answerDone
  | _ => s.answer .badValue

/-- CLEAR_TAB: the stop is removed (R180). -/
def State.doClearTab (args : List Byte) (s : State) : Acted :=
  match wides args with
  | some [t] =>
    if Config.lastPosition < t then s.answer .badValue
    else if s.settings.tabs.contains t then
      (s.writeSettings fun q => { q with tabs := q.tabs.filter (· ≠ t) }).answerDone
    else s.answer .notFound
  | _ => s.answer .badValue

/-- Strictly ascending positions of 0 to 1559. -/
def goodStops : List Nat → Bool
  | [] => true
  | [t] => decide (t ≤ Config.lastPosition)
  | t :: u :: rest => decide (t < u) && goodStops (u :: rest)

/-- CLEAR_TABS: the stop list is replaced by the list carried (R180). -/
def State.doClearTabs (args : List Byte) (s : State) : Acted :=
  match wides args with
  | some ts =>
    if ts.length ≤ Config.tabPlaces && goodStops ts then
      (s.writeSettings fun q => { q with tabs := ts }).answerDone
    else s.answer .badValue
  | none => s.answer .badValue

/-- SET_PITCH (R50, R102, R180). -/
def State.doSetPitch (args : List Byte) (s : State) : Acted :=
  match args with
  | [b] => match pitchArg b with
    | some p => (s.writeSettings fun q => { q with pitch := p }).answerDone
    | none => s.answer .badValue
  | _ => s.answer .badValue

/-- SET_SPACING (R107, R180). -/
def State.doSetSpacing (args : List Byte) (s : State) : Acted :=
  match args with
  | [b] => match spacingArg b with
    | some p => (s.writeSettings fun q => { q with spacing := p }).answerDone
    | none => s.answer .badValue
  | _ => s.answer .badValue

/-- SET_IMPRESSION: clamped to 1 to 5; DONE carries the setting in force (R180). -/
def State.doSetImpression (args : List Byte) (s : State) : Acted :=
  match args with
  | [b] => ⟨s.writeSettings fun q => { q with impression := impressionArg b }, .done,
      [byteOf (impressionArg b)]⟩
  | _ => s.answer .badValue

/-- SET_TYPING_MODE: refused while the line holds PENDING cells; the format applies at once to a current
line that is OPEN with no cells (R180). -/
def State.doSetTypingMode (args : List Byte) (s : State) : Acted :=
  match args with
  | [m, f] => match modeArg m, formatArg f with
    | some m, some f =>
      if s.line.settled then
        let t := s.writeSettings fun q => { q with mode := m, format := f }
        (if s.line.state = .open && s.line.cells.isEmpty then
          { t with line := { t.line with format := f } } else t).answerDone
      else s.answer .badState
    | _, _ => s.answer .badValue
  | _ => s.answer .badValue

/-- SET_SPELL_MODE takes effect in its event (R153, R180). -/
def State.doSetSpellMode (args : List Byte) (s : State) : Acted :=
  match args with
  | [b] => match spellArg b with
    | some m =>
      let t := (s.writeSettings fun q => { q with spell := m }).spellModeChanged s.settings.spell
      t.runExamine.sequence.answerDone
    | none => s.answer .badValue
  | _ => s.answer .badValue

/-- A change of volume to OFF empties both slots (R171). -/
def State.volumeChanged (s : State) : State :=
  if s.settings.volume = .off then { s with tone := ⟨none, none⟩ } else s

/-- SET_TONE_VOLUME (R171, R180). -/
def State.doSetToneVolume (args : List Byte) (s : State) : Acted :=
  match args with
  | [b] => match volumeArg b with
    | some v => (s.writeSettings fun q => { q with volume := v }).volumeChanged.answerDone
    | none => s.answer .badValue
  | _ => s.answer .badValue

/-- ADD_WORD, the request (R157). -/
def State.doAddWord (args : List Byte) (s : State) : Acted :=
  match foldCodes args with
  | some w =>
    if !wordForm w then s.answer .badValue
    else if s.retained.words.contains w then s.answer .already
    else if Config.wordPlaces ≤ s.retained.words.length then s.answer .listFull
    else (s.setWords (s.retained.words ++ [w])).answerDone
  | none => s.answer .badValue

/-- REMOVE_WORD (R157; log entry 35). -/
def State.doRemoveWord (args : List Byte) (s : State) : Acted :=
  if args.length < 2 || Config.longestWord < args.length then s.answer .badValue
  else match foldCodes args with
    | some w =>
      if s.retained.words.contains w then
        (s.setWords (s.retained.words.filter (· ≠ w))).answerDone
      else s.answer .notFound
    | none => s.answer .notFound

/-- The kinds a mask names are enabled or disabled, and the mask is written (R180, R183). -/
def State.maskNotices (m : Nat) (on : Bool) (s : State) : State :=
  let named (k : NoticeKind) : Bool := m.testBit (k.number - 1)
  let rows := NoticeKind.all.foldl (fun t k =>
    if named k then t.setRow k { t.row k with enabled := on } else t) s.notices.rows
  { s with
    notices := { s.notices with rows := rows },
    retained := { s.retained with mask := NoticeKind.all.map fun k => (rows.row k).enabled } }

/-- ENABLE_NOTICES and DISABLE_NOTICES (R180). -/
def State.doMask (on : Bool) (args : List Byte) (s : State) : Acted :=
  match wides args with
  | some [m] => if m < 2 ^ 14 then (s.maskNotices m on).answerDone else s.answer .badValue
  | _ => s.answer .badValue

/-! ## Pages (R182, R185) -/

/-- Page 1: the error log and the error count (R185). -/
def Link.page1 (l : Link) : List Byte :=
  match l.errorLog with
  | none => List.replicate 13 0x00 ++ [byteOf l.errorCount]
  | some r =>
    [byteOf (1 + 2 * bit r.kind.isSome + 4 * bit r.length.isSome), byteOf r.error.number,
      r.kind.getD 0, r.length.getD 0, byteOf r.payload.length] ++
      (r.payload ++ List.replicate 8 0x00).take 8 ++ [byteOf l.errorCount]

/-- The pitch setting's number in page 2 (R185). -/
def PitchSetting.number : PitchSetting → Nat
  | .native => 0 | .ten => 1 | .twelve => 2 | .fifteen => 3

/-- The spacing's index in page 2 (R185). -/
def Spacing.index : Spacing → Nat
  | .s8 => 0 | .s12 => 1 | .s16 => 2 | .s20 => 3 | .s24 => 4

/-- The typing mode's number (R185). -/
def TypingMode.number : TypingMode → Nat
  | .direct => 0 | .word => 1 | .line => 2

/-- The format's number (R185). -/
def Format.number : Format → Nat
  | .normal => 0 | .center => 1 | .flushRight => 2 | .justify => 3

/-- The spelling mode's number (R185). -/
def SpellMode.number : SpellMode → Nat
  | .off => 0 | .alert => 1 | .hold => 2

/-- The volume's number (R185). -/
def Volume.number : Volume → Nat
  | .off => 0 | .low => 1 | .high => 2

/-- The notice mask as a number, bit j for kind j + 1 (R185). -/
def State.maskNumber (s : State) : Nat :=
  (NoticeKind.all.map fun k =>
    if (s.notices.rows.row k).enabled then 2 ^ (k.number - 1) else 0).sum

/-- Page 2: the settings in use (R185). -/
def State.page2 (s : State) : List Byte :=
  wideBytes s.settings.left ++ wideBytes s.settings.right ++
    ((s.settings.tabs.flatMap wideBytes) ++ List.replicate 32 0xFF).take 32 ++
    [byteOf (64 * s.settings.pitch.number + s.settings.spacing.index),
      byteOf s.settings.impression,
      byteOf (16 * s.settings.mode.number + s.settings.format.number),
      byteOf (16 * s.settings.spell.number + s.settings.volume.number),
      signedByte s.retained.impression, signedByte s.retained.wheelPhase,
      signedByte s.retained.printOffset] ++ wideBytes s.maskNumber

/-- The ribbon kind's number (R185). -/
def ribbonNumber : Option RibbonKind → Nat
  | none => 0 | some .fabric => 1 | some .film => 2 | some .multi => 3

/-- The tape kind's number (R185). -/
def tapeNumber : Option TapeKind → Nat
  | none => 0 | some .liftTape => 1 | some .coverTape => 2

/-- The exponent byte of a ROM, 0 when it is not PRESENT (R185). -/
def DictStatus.exponent : DictStatus → Nat
  | .present n => Nat.log2 n
  | _ => 0

/-- The mechanism state's number (R185). -/
def Mech.number : Mech → Nat
  | .starting => 0 | .idle => 1 | .running => 2 | .paused => 3 | .halted => 4 | .fault => 5
  | .adjust => 6

/-- Page 3: the mechanism (R185). -/
def State.page3 (s : State) : List Byte :=
  [byteOf s.wheel.id, byteOf s.wheel.family,
    byteOf (bit (knownFamily s.wheel.id).isNone + 2 * bit s.wheel.present),
    byteOf (ribbonNumber s.ribbon.kind), byteOf (tapeNumber s.ribbon.tape),
    byteOf s.spell.main.number, byteOf s.spell.supplement.number,
    byteOf s.spell.main.exponent, byteOf s.spell.supplement.exponent] ++
    wideBytes s.hammer.heat ++
    [byteOf s.seq.mech.number, causeByte s.seq.causes, byteOf (faultNumber s.seq.fault),
      byteOf s.strikeFree]

/-- READ_PAGE (R181, R182). -/
def State.doReadPage (args : List Byte) (s : State) : Acted :=
  match args with
  | [p] => match p.toNat with
    | 0 => ⟨s, .done, s.retained.pattern⟩
    | 1 => ⟨s, .done, s.link.page1⟩
    | 2 => ⟨s, .done, s.page2⟩
    | 3 => ⟨s, .done, s.page3⟩
    | _ => s.answer .badValue
  | _ => s.answer .badValue

/-! ## The line (R181) -/

/-- The line state's number (R185). -/
def LineState.number : LineState → Nat
  | .open => 0 | .returnWait => 1 | .returned => 2

/-- The cell state's number (R185). -/
def CellState.number : CellState → Nat
  | .pending => 0 | .queued => 1 | .striking => 2 | .struck => 3 | .lifting => 4

/-- The code and state READ_LINE gives of a position (R181). -/
def Line.column (l : Line) (p : Nat) : List Byte :=
  match l.cells[p]? with
  | some c =>
    [match c.kind with
      | .glyph => c.code.getD 0 | .space => 0x20 | .tab => 0x1A | .gap => 0x1B,
      byteOf c.state.number]
  | none => [0x00, 0xFF]

/-- READ_LINE of one half of the window (R181). -/
def State.doReadLine (args : List Byte) (s : State) : Acted :=
  match args with
  | [h] =>
    if h.toNat ≤ 1 then
      ⟨s, .done, [byteOf s.display.origin, byteOf s.line.cursor, byteOf s.line.cells.length,
        byteOf s.line.state.number] ++
        (List.range 20).flatMap fun j => s.line.column (s.display.origin + 20 * h.toNat + j)⟩
    else s.answer .badValue
  | _ => s.answer .badValue

/-! ## The other requests (R181) -/

/-- WRITE_TEST_PATTERN (R181). -/
def State.doWriteTestPattern (args : List Byte) (s : State) : Acted :=
  if args.length = 16 then
    ({ s with retained := { s.retained with pattern := args } } : State).answerDone
  else s.answer .badValue

/-- CLEAR_ERROR_LOG: DONE carries the count as it stood before (R181). -/
def State.doClearErrorLog (args : List Byte) (s : State) : Acted :=
  if args.isEmpty then
    ⟨{ s with link := { s.link with errorLog := none, errorCount := 0 } }, .done,
      [byteOf s.link.errorCount]⟩
  else s.answer .badValue

/-- The pause flag is set or cleared, and the Print Sequencer decides (R75, R87). -/
def State.setPause (p : Bool) (s : State) : State :=
  ({ s with seq := { s.seq with pause := p } } : State).sequence

/-- PAUSE and CONTINUE (R87, R181). -/
def State.doPause (p : Bool) (args : List Byte) (s : State) : Acted :=
  if args.isEmpty then (s.setPause p).answerDone else s.answer .badValue

/-- RESUME may begin: recovery idle, cover closed, no homing and no identification running (R90). -/
def State.mayResume (s : State) : Bool :=
  !s.seq.recovering && !s.inputs.cover.qualified && s.wheel.ident = .idle &&
    (match s.carrier.move with | .homing _ => false | _ => true)

/-- RESUME (R90). Arguments it does not take are answered BAD_VALUE before its states are judged (log entry
48). -/
def State.doResume (args : List Byte) (s : State) : Acted :=
  if !args.isEmpty then s.answer .badValue
  else if s.seq.mech ≠ .fault then s.answer .badState
  else if s.mayResume then
    (({ s with seq := { s.seq with recovering := true } } : State).beginHoming).answerDone
  else s.answer .notReady

/-- RESTART: the warm start follows the last byte of the answer (R181). -/
def State.doRestart (args : List Byte) (s : State) : Acted :=
  if args.isEmpty then
    ({ s with link := { s.link with
        slot := s.link.slot.map fun q => { q with restarts := true } } } : State).answerDone
  else s.answer .badValue

/-- SOUND_TONE, with the repeat flag clear (R181). -/
def State.doSoundTone (args : List Byte) (s : State) : Acted :=
  match args with
  | [b] => match toneArg b with
    | some k => (s.requestTone k false).answerDone
    | none => s.answer .badValue
  | _ => s.answer .badValue

/-! ## Adjust mode (R190 to R193) -/

/-- ENTER_ADJUST from IDLE on an OPEN line with no cells (R190). Arguments it does not take are answered
BAD_VALUE before the state is judged (log entry 48). -/
def State.doEnterAdjust (args : List Byte) (s : State) : Acted :=
  if !args.isEmpty then s.answer .badValue
  else if s.seq.mech = .idle && s.line.state = .open && s.line.cells.isEmpty then
    ({ s with seq := { s.seq with mech := .adjust, testPos := some s.line.start } } : State).answerDone
  else s.answer .badState

/-- The three trims in the order of ADJUST_STEP (R185, R191). -/
inductive Trim where | impression | wheelPhase | printOffset
  deriving DecidableEq, Repr

/-- The trim argument (R185). -/
def trimArg (b : Byte) : Option Trim :=
  match b.toNat with
  | 0 => some .impression | 1 => some .wheelPhase | 2 => some .printOffset | _ => none

/-- The range of a trim is −n to +n (R191). -/
def Trim.limit : Trim → Int
  | .impression => 4 | .wheelPhase => 8 | .printOffset => 3

/-- The value of a trim. -/
def Retained.trim (r : Retained) : Trim → Int
  | .impression => r.impression | .wheelPhase => r.wheelPhase | .printOffset => r.printOffset

/-- A trim takes a value. -/
def Retained.setTrim (r : Retained) (t : Trim) (v : Int) : Retained :=
  match t with
  | .impression => { r with impression := v }
  | .wheelPhase => { r with wheelPhase := v }
  | .printOffset => { r with printOffset := v }

/-- ADJUST_STEP (R191). -/
def State.doAdjustStep (args : List Byte) (s : State) : Acted :=
  match args with
  | [a, b] => match trimArg a, trimStep b with
    | some t, some d =>
      let v := s.retained.trim t + d
      if -t.limit ≤ v ∧ v ≤ t.limit then
        ({ s with retained := s.retained.setTrim t v } : State).answerDone
      else s.answer .atLimit
    | _, _ => s.answer .badValue
  | _ => s.answer .badValue

/-- The entry of a test strike: a PRINT at the test position (R192). -/
def State.testEntry (s : State) (pos : Nat) (code : Byte) : Entry :=
  { Entry.plain .print with
    x := some (s.targetOf pos), voff := some 0, petal := some ((s.petalOf code).getD 0),
    energy := some (s.energyOf code), width := some (s.glyphE code), wheelId := some s.wheel.id,
    first := true, last := true }

/-- A test strike begins: WHEEL_HOME where the angle is not known, else POSITION with the printing point
as it stands as its platen target (R96, R192). -/
def State.beginTest (e : Entry) (s : State) : State :=
  if s.wheel.known then
    ({ s with seq := { s.seq with
        testStrike := some e, inFlight := some ⟨s.platen.counter, false⟩ } } : State).beginPosition e
  else s.takeFault .wheelHome

/-- The halt cause set formed for a PRINT is empty (R83, R192). -/
def State.noCauseForPrint (s : State) : Bool :=
  ([HaltCause.coverOpen, .paperOut, .ribbonAbsent, .ribbonEnd, .noWheel].all fun c =>
    !s.causePresent c)

/-- TEST_STRIKE, its checks in order (R192). -/
def State.doTestStrike (args : List Byte) (s : State) : Acted :=
  match args with
  | [code] =>
    if (s.petalOf code).isNone then s.answer .badValue
    else if s.seq.testStrike.isSome || s.seq.leaving then s.answer .notReady
    else if !s.noCauseForPrint then s.answer .notReady
    else
      let pos := s.seq.testPos.getD 0
      if Config.rightEnd < pos + s.glyphE code then s.answer .atLimit
      else (s.beginTest (s.testEntry pos code)).answerDone
  | _ => s.answer .badValue

/-- The leaving move begins; one of no distance is checked and ends at once (R95, R193). -/
def State.beginLeaving (s : State) : State :=
  let t := { s with seq := { s.seq with leaving := true } }
  let r := t.startCarrier (t.targetOf t.line.start)
  if r.2 then r.1.takeFault .carrierStall
  else if r.1.carrier.move = .none && r.1.carrier.known then r.1.leaveAdjust else r.1

/-- LEAVE_ADJUST (R193). Arguments it does not take are answered BAD_VALUE before a strike or move in
progress is judged (log entry 48). -/
def State.doLeaveAdjust (args : List Byte) (s : State) : Acted :=
  if !args.isEmpty then s.answer .badValue
  else if s.seq.testStrike.isSome || s.seq.leaving then s.answer .notReady
  else s.beginLeaving.sequence.answerDone

/-! ## Commands: settings requests (R180) -/

/-- SET_MARGINS (R180). -/
def execSetMargins (num : Byte) (args : List Byte) (s : State) : Host.Outcome State Fault Refusal :=
  .next (s.offerRequest num 0x01 args fun s => s.gateAdjust (s.doSetMargins args))

/-- SET_TAB (R180). -/
def execSetTab (num : Byte) (args : List Byte) (s : State) : Host.Outcome State Fault Refusal :=
  .next (s.offerRequest num 0x02 args fun s => s.gateAdjust (s.doSetTab args))

/-- CLEAR_TAB (R180). -/
def execClearTab (num : Byte) (args : List Byte) (s : State) : Host.Outcome State Fault Refusal :=
  .next (s.offerRequest num 0x03 args fun s => s.gateAdjust (s.doClearTab args))

/-- CLEAR_TABS (R180). -/
def execClearTabs (num : Byte) (args : List Byte) (s : State) : Host.Outcome State Fault Refusal :=
  .next (s.offerRequest num 0x04 args fun s => s.gateAdjust (s.doClearTabs args))

/-- SET_PITCH (R180). -/
def execSetPitch (num : Byte) (args : List Byte) (s : State) : Host.Outcome State Fault Refusal :=
  .next (s.offerRequest num 0x05 args fun s => s.gateAdjust (s.doSetPitch args))

/-- SET_SPACING (R180). -/
def execSetSpacing (num : Byte) (args : List Byte) (s : State) : Host.Outcome State Fault Refusal :=
  .next (s.offerRequest num 0x06 args fun s => s.gateAdjust (s.doSetSpacing args))

/-- SET_IMPRESSION (R180). -/
def execSetImpression (num : Byte) (args : List Byte) (s : State) :
    Host.Outcome State Fault Refusal :=
  .next (s.offerRequest num 0x07 args fun s => s.gateAdjust (s.doSetImpression args))

/-- SET_TYPING_MODE (R180). -/
def execSetTypingMode (num : Byte) (args : List Byte) (s : State) :
    Host.Outcome State Fault Refusal :=
  .next (s.offerRequest num 0x08 args fun s => s.gateAdjust (s.doSetTypingMode args))

/-- SET_SPELL_MODE (R153, R180). -/
def execSetSpellMode (num : Byte) (args : List Byte) (s : State) :
    Host.Outcome State Fault Refusal :=
  .next (s.offerRequest num 0x09 args fun s => s.gateAdjust (s.doSetSpellMode args))

/-- SET_TONE_VOLUME (R171, R180). -/
def execSetToneVolume (num : Byte) (args : List Byte) (s : State) :
    Host.Outcome State Fault Refusal :=
  .next (s.offerRequest num 0x0A args fun s => s.gateAdjust (s.doSetToneVolume args))

/-- ADD_WORD, the request (R157, R180). -/
def execAddWordRequest (num : Byte) (args : List Byte) (s : State) :
    Host.Outcome State Fault Refusal :=
  .next (s.offerRequest num 0x0B args fun s => s.gateAdjust (s.doAddWord args))

/-- REMOVE_WORD (R157, R180). -/
def execRemoveWord (num : Byte) (args : List Byte) (s : State) : Host.Outcome State Fault Refusal :=
  .next (s.offerRequest num 0x0C args fun s => s.gateAdjust (s.doRemoveWord args))

/-- ENABLE_NOTICES (R180, R183). -/
def execEnableNotices (num : Byte) (args : List Byte) (s : State) :
    Host.Outcome State Fault Refusal :=
  .next (s.offerRequest num 0x0D args fun s => s.gateAdjust (s.doMask true args))

/-- DISABLE_NOTICES (R180, R183). -/
def execDisableNotices (num : Byte) (args : List Byte) (s : State) :
    Host.Outcome State Fault Refusal :=
  .next (s.offerRequest num 0x0E args fun s => s.gateAdjust (s.doMask false args))

/-! ## Commands: the other requests (R181) -/

/-- READ_PAGE, in every mechanism state (R181, R182). -/
def execReadPage (num : Byte) (args : List Byte) (s : State) : Host.Outcome State Fault Refusal :=
  .next (s.offerRequest num 0x0F args fun s => s.doReadPage args)

/-- WRITE_TEST_PATTERN (R181). -/
def execWriteTestPattern (num : Byte) (args : List Byte) (s : State) :
    Host.Outcome State Fault Refusal :=
  .next (s.offerRequest num 0x10 args fun s => s.gateAdjust (s.doWriteTestPattern args))

/-- CLEAR_ERROR_LOG (R181). -/
def execClearErrorLog (num : Byte) (args : List Byte) (s : State) :
    Host.Outcome State Fault Refusal :=
  .next (s.offerRequest num 0x11 args fun s => s.gateAdjust (s.doClearErrorLog args))

/-- READ_LINE (R181). -/
def execReadLine (num : Byte) (args : List Byte) (s : State) : Host.Outcome State Fault Refusal :=
  .next (s.offerRequest num 0x12 args fun s => s.gateAdjust (s.doReadLine args))

/-- PAUSE (R87, R181). -/
def execPauseRequest (num : Byte) (args : List Byte) (s : State) :
    Host.Outcome State Fault Refusal :=
  .next (s.offerRequest num 0x13 args fun s => s.gateBoth (s.doPause true args))

/-- CONTINUE (R87, R181). -/
def execContinueRequest (num : Byte) (args : List Byte) (s : State) :
    Host.Outcome State Fault Refusal :=
  .next (s.offerRequest num 0x14 args fun s => s.gateBoth (s.doPause false args))

/-- RESUME (R90, R181). -/
def execResume (num : Byte) (args : List Byte) (s : State) : Host.Outcome State Fault Refusal :=
  .next (s.offerRequest num 0x15 args fun s => s.gateBoth (s.doResume args))

/-- RESTART, in every mechanism state (R181). -/
def execRestart (num : Byte) (args : List Byte) (s : State) : Host.Outcome State Fault Refusal :=
  .next (s.offerRequest num 0x16 args fun s => s.doRestart args)

/-- SOUND_TONE, in every mechanism state (R181). -/
def execSoundTone (num : Byte) (args : List Byte) (s : State) : Host.Outcome State Fault Refusal :=
  .next (s.offerRequest num 0x1B args fun s => s.doSoundTone args)

/-- ENTER_ADJUST (R190). -/
def execEnterAdjust (num : Byte) (args : List Byte) (s : State) : Host.Outcome State Fault Refusal :=
  .next (s.offerRequest num 0x17 args fun s => s.gateBoth (s.doEnterAdjust args))

/-- ADJUST_STEP (R191). -/
def execAdjustStep (num : Byte) (args : List Byte) (s : State) : Host.Outcome State Fault Refusal :=
  .next (s.offerRequest num 0x18 args fun s => s.gateService (s.doAdjustStep args))

/-- TEST_STRIKE (R192). -/
def execTestStrike (num : Byte) (args : List Byte) (s : State) : Host.Outcome State Fault Refusal :=
  .next (s.offerRequest num 0x19 args fun s => s.gateService (s.doTestStrike args))

/-- LEAVE_ADJUST (R193). -/
def execLeaveAdjust (num : Byte) (args : List Byte) (s : State) : Host.Outcome State Fault Refusal :=
  .next (s.offerRequest num 0x1A args fun s => s.gateService (s.doLeaveAdjust args))

/-- A request whose code is not listed is answered UNKNOWN, or BAD_STATE in ADJUST (R180, R181). -/
def execUnknownRequestCode (num code : Byte) (args : List Byte) (s : State) :
    Host.Outcome State Fault Refusal :=
  .next (if listedCode code then s
    else s.offerRequest num code args fun s => s.gateAdjust (s.answer .unknown))

/-! ## Commands: the link (R172 to R179) -/

/-- KEY_FRAME: a good KEY frame is taken whole and its key offered to the Key Queue (R175). -/
def execKeyFrame (code flags : Byte) (s : State) : Host.Outcome State Fault Refusal :=
  .next (if s.receiving then ((s.takeFrame 0x01 [code, flags]).offerKey code flags).finish s else s)

/-- TEXT_FRAME: a good TEXT frame is taken whole (R176). -/
def execTextFrame (bytes : List Byte) (s : State) : Host.Outcome State Fault Refusal :=
  .next (if s.receiving && !bytes.isEmpty && decide (bytes.length ≤ 48) then
      ((s.takeFrame 0x02 bytes).offerText bytes).finish s
    else s)

/-- FRAME_ERROR: a STOP, KIND, LENGTH or CHECK error discards the frame (R173, R174). -/
def execFrameError (rx : List RxByte) (s : State) : Host.Outcome State Fault Refusal :=
  .next (if s.receiving then
      match judge rx with
      | .error err h [] => (s.frameFails err h).finish s
      | _ => s
    else s)

/-- FRAME_GAP_TIMEOUT: 5 ms pass after a byte of the frame (R173, R174). -/
def execFrameGapTimeout (rx : List RxByte) (s : State) : Host.Outcome State Fault Refusal :=
  .next (if s.receiving then
      match judge rx with
      | .incomplete h => (s.frameFails .gap h).finish s
      | _ => s
    else s)

/-- RESYNC_BYTE_RECEIVED: a byte received in RESYNC is discarded and restarts the idle timer (R174). -/
def execResyncByteReceived (s : State) : Host.Outcome State Fault Refusal := .next s

/-- RESYNC_IDLE_EXPIRY: 2 ms pass with the line idle; the receiver enters HUNT and ALERT returns high
(R174). -/
def execResyncIdleExpiry (s : State) : Host.Outcome State Fault Refusal :=
  .next (if s.live && s.link.receiver = .resync then
      { s with link := { s.link with receiver := .hunt, alertLow := false } }
    else s)

/-- TRANSMIT_COMPLETE: the transmitter has sent a frame. The slot answer frees the slot, or makes the
warm start of a RESTART; then the next frame is chosen (R178, R179, R181). -/
def execTransmitComplete (s : State) : Host.Outcome State Fault Refusal :=
  if !s.live then .next s
  else match s.link.transmitter with
    | .idle => .next s
    | .sending .answer _ =>
      if (s.link.slot.map (·.restarts)).getD false then .next s.warmStart
      else .next ({ s with link := { s.link with slot := none } } : State).chooseFrame
    | .sending _ _ => .next s.chooseFrame

end Sys2Proof.Machine
end

