-- ==== Sys2Proof/Machine/Dispatch.lean ====
section
/-! DEFINITION. The meaning of every command, one arm per row of the opcode table. -/

namespace Sys2Proof.Machine

def exec (i : Instr) (s : State) : Host.Outcome State Fault Refusal :=
  match i with
  | .powerUp => Sys2Proof.Machine.execPowerUp s
  | .mainPowerFail => Sys2Proof.Machine.execMainPowerFail s
  | .resetPinAssert => Sys2Proof.Machine.execResetPinAssert s
  | .resetPinRelease => Sys2Proof.Machine.execResetPinRelease s
  | .keyFrame code flags => Sys2Proof.Machine.execKeyFrame code flags s
  | .textFrame bytes => Sys2Proof.Machine.execTextFrame bytes s
  | .frameError rx => Sys2Proof.Machine.execFrameError rx s
  | .frameGapTimeout rx => Sys2Proof.Machine.execFrameGapTimeout rx s
  | .resyncIdleExpiry => Sys2Proof.Machine.execResyncIdleExpiry s
  | .transmitComplete => Sys2Proof.Machine.execTransmitComplete s
  | .setMargins num args => Sys2Proof.Machine.execSetMargins num args s
  | .setTab num args => Sys2Proof.Machine.execSetTab num args s
  | .clearTab num args => Sys2Proof.Machine.execClearTab num args s
  | .clearTabs num args => Sys2Proof.Machine.execClearTabs num args s
  | .setPitch num args => Sys2Proof.Machine.execSetPitch num args s
  | .setSpacing num args => Sys2Proof.Machine.execSetSpacing num args s
  | .setImpression num args => Sys2Proof.Machine.execSetImpression num args s
  | .setTypingMode num args => Sys2Proof.Machine.execSetTypingMode num args s
  | .setSpellMode num args => Sys2Proof.Machine.execSetSpellMode num args s
  | .setToneVolume num args => Sys2Proof.Machine.execSetToneVolume num args s
  | .addWordRequest num args => Sys2Proof.Machine.execAddWordRequest num args s
  | .removeWord num args => Sys2Proof.Machine.execRemoveWord num args s
  | .enableNotices num args => Sys2Proof.Machine.execEnableNotices num args s
  | .disableNotices num args => Sys2Proof.Machine.execDisableNotices num args s
  | .readPage num args => Sys2Proof.Machine.execReadPage num args s
  | .writeTestPattern num args => Sys2Proof.Machine.execWriteTestPattern num args s
  | .clearErrorLog num args => Sys2Proof.Machine.execClearErrorLog num args s
  | .readLine num args => Sys2Proof.Machine.execReadLine num args s
  | .pauseRequest num args => Sys2Proof.Machine.execPauseRequest num args s
  | .continueRequest num args => Sys2Proof.Machine.execContinueRequest num args s
  | .resume num args => Sys2Proof.Machine.execResume num args s
  | .restart num args => Sys2Proof.Machine.execRestart num args s
  | .soundTone num args => Sys2Proof.Machine.execSoundTone num args s
  | .enterAdjust num args => Sys2Proof.Machine.execEnterAdjust num args s
  | .adjustStep num args => Sys2Proof.Machine.execAdjustStep num args s
  | .testStrike num args => Sys2Proof.Machine.execTestStrike num args s
  | .leaveAdjust num args => Sys2Proof.Machine.execLeaveAdjust num args s
  | .unknownRequestCode num code args => Sys2Proof.Machine.execUnknownRequestCode num code args s
  | .graphicCode => Sys2Proof.Machine.execGraphicCode s
  | .space => Sys2Proof.Machine.execSpace s
  | .tab => Sys2Proof.Machine.execTab s
  | .decimalTab => Sys2Proof.Machine.execDecimalTab s
  | .returnKey => Sys2Proof.Machine.execReturn s
  | .index => Sys2Proof.Machine.execIndex s
  | .reverseIndex => Sys2Proof.Machine.execReverseIndex s
  | .halfUp => Sys2Proof.Machine.execHalfUp s
  | .halfDown => Sys2Proof.Machine.execHalfDown s
  | .backspace => Sys2Proof.Machine.execBackspace s
  | .forward => Sys2Proof.Machine.execForward s
  | .relocate => Sys2Proof.Machine.execRelocate s
  | .correct => Sys2Proof.Machine.execCorrect s
  | .wordErase => Sys2Proof.Machine.execWordErase s
  | .lineErase => Sys2Proof.Machine.execLineErase s
  | .acceptWord => Sys2Proof.Machine.execAcceptWord s
  | .addWord => Sys2Proof.Machine.execAddWord s
  | .center => Sys2Proof.Machine.execCenter s
  | .flushRight => Sys2Proof.Machine.execFlushRight s
  | .marginRelease => Sys2Proof.Machine.execMarginRelease s
  | .setLeft => Sys2Proof.Machine.execSetLeft s
  | .setRight => Sys2Proof.Machine.execSetRight s
  | .tabSet => Sys2Proof.Machine.execTabSet s
  | .tabClear => Sys2Proof.Machine.execTabClear s
  | .bold => Sys2Proof.Machine.execBold s
  | .underline => Sys2Proof.Machine.execUnderline s
  | .printHold => Sys2Proof.Machine.execPrintHold s
  | .unknownKeyCode => Sys2Proof.Machine.execUnknownKeyCode s
  | .releaseRunStep => Sys2Proof.Machine.execReleaseRunStep s
  | .eraseStep => Sys2Proof.Machine.execEraseStep s
  | .carrierMoveComplete marks => Sys2Proof.Machine.execCarrierMoveComplete marks s
  | .wheelRotationComplete => Sys2Proof.Machine.execWheelRotationComplete s
  | .platenMotionComplete => Sys2Proof.Machine.execPlatenMotionComplete s
  | .fire => Sys2Proof.Machine.execFire s
  | .pulseEnd => Sys2Proof.Machine.execPulseEnd s
  | .settleEnd => Sys2Proof.Machine.execSettleEnd s
  | .advanceEnd => Sys2Proof.Machine.execAdvanceEnd s
  | .decayEvent => Sys2Proof.Machine.execDecayEvent s
  | .homingOffSwitchEnd => Sys2Proof.Machine.execHomingOffSwitchEnd s
  | .carrierHomeFound => Sys2Proof.Machine.execCarrierHomeFound s
  | .carrierHomeSearchLimit => Sys2Proof.Machine.execCarrierHomeSearchLimit s
  | .notchTrailingEdge width => Sys2Proof.Machine.execNotchTrailingEdge width s
  | .notchClassified => Sys2Proof.Machine.execNotchClassified s
  | .searchRevolutionLimit => Sys2Proof.Machine.execSearchRevolutionLimit s
  | .rawLevelChange input level => Sys2Proof.Machine.execRawLevelChange input level s
  | .qualificationTimerExpiry input driven => Sys2Proof.Machine.execQualificationTimerExpiry input driven s
  | .sensingSample contacts => Sys2Proof.Machine.execSensingSample contacts s
  | .dictReadComplete data => Sys2Proof.Machine.execDictReadComplete data s
  | .blinkToggle => Sys2Proof.Machine.execBlinkToggle s
  | .messageExpiry => Sys2Proof.Machine.execMessageExpiry s
  | .displaySendComplete => Sys2Proof.Machine.execDisplaySendComplete s
  | .toneComplete => Sys2Proof.Machine.execToneComplete s
  | .resyncByteReceived => Sys2Proof.Machine.execResyncByteReceived s
  | .encoderMarkPassed => Sys2Proof.Machine.execEncoderMarkPassed s
  | .backupSupplyLost => Sys2Proof.Machine.execBackupSupplyLost s

end Sys2Proof.Machine
end

