-- ==== Sys2Proof/Safety.lean ====
section
/-! DEFINITION. What the spec says always holds of the part, and the relations between two states that
the statements use. -/

namespace Sys2Proof.Machine

/-! ## What always holds -/

/-- The heat account never exceeds full scale (R117). -/
def State.HeatBounded (s : State) : Prop := s.hammer.heat ≤ Config.heatFull

/-- The Strike Queue holds 0 to 32 entries (R71). -/
def State.StrikesBounded (s : State) : Prop := s.strikes.entries.length ≤ Config.strikePlaces

/-- The Key Queue holds 0 to 64 entries (R172). -/
def State.KeysBounded (s : State) : Prop := s.keys.length ≤ Config.keyPlaces

/-- BUSY is asserted at 8 or fewer free entries of the Key Queue and deasserted at 24 or more (R177). -/
def State.BusySound (s : State) : Prop :=
  (64 - s.keys.length ≤ 8 → s.link.busyLine = true) ∧
    (24 ≤ 64 - s.keys.length → s.link.busyLine = false)

/-- The cursor stands between cells, 0 to n (R1, R2). -/
def State.CursorInside (s : State) : Prop := s.line.cursor ≤ s.line.cells.length

/-- The record holds at most 160 cells, and so does the wrap carry that will form a record (R6). -/
def State.LineBounded (s : State) : Prop :=
  s.line.cells.length ≤ Config.cellPlaces ∧ s.text.carry.length ≤ Config.cellPlaces

/-- The window law of the display: w ≤ c ≤ w + 35 (R160). -/
def State.WindowSound (s : State) : Prop :=
  s.display.origin ≤ s.line.cursor ∧ s.line.cursor ≤ s.display.origin + 35

/-- While the frame error log holds a record, the error count stands between 1 and 255 (R174). -/
def State.ErrorLogSound (s : State) : Prop :=
  s.link.errorLog.isSome = true → 1 ≤ s.link.errorCount ∧ s.link.errorCount ≤ 255

/-- The settings in use are those the Retained Area holds (R186); the tab stops are ascending without
duplicates, and the stops, the words and the trims stay within their limits (R44, R157, R191). -/
def State.RetainedSound (s : State) : Prop :=
  s.settings = s.retained.settings ∧ s.settings.tabs.length ≤ Config.tabPlaces ∧
    s.settings.tabs.Pairwise (· < ·) ∧
    s.retained.words.length ≤ Config.wordPlaces ∧
    ∀ t : Trim, -t.limit ≤ s.retained.trim t ∧ s.retained.trim t ≤ t.limit

/-- The second law of positions: the first cell stands at s, every other where the one before it ends
(R5). -/
def chained (x : Nat) : List Cell → Prop
  | [] => True
  | c :: cs => c.x = x ∧ chained (x + c.e) cs

/-- The cells of the line obey the second law of positions (R5). -/
def Line.Chained (l : Line) : Prop := chained l.start l.cells

/-- A cell whose strikes or lifts are under way: one in whose state an entry refers to it (R13). -/
def Cell.inWork (c : Cell) : Prop := c.state = .queued ∨ c.state = .striking ∨ c.state = .lifting

/-- The entries of each group stand together, the first mark on none but the first and the last mark on
the last alone: an entry without the last mark is followed by one of its cell without the first mark, and
behind an entry with it no entry refers to its cell (R13, R71). -/
def GroupsStandTogether (es : List Entry) : Prop :=
  ∀ (i : Nat) (e : Entry), es[i]? = some e →
    (e.last = false → ∃ f, es[i + 1]? = some f ∧ f.cell = e.cell ∧ f.first = false) ∧
    (e.last = true → ∀ (j : Nat) (f : Entry), i < j → es[j]? = some f → e.cell.isSome = true →
      f.cell ≠ e.cell)

/-- The laws of the Line Record: the chain of positions up to 1560, with escapements up to 36 but for TABs
(R5), the PENDING cells as the tail (R7), and entries and cells that refer to each other (R13). The fields
from `spaces` on are what the model keeps to hold these: SPACEs up to 12 steps before a wrap (R50, R67),
identities given once, groups that stand together (R71), glyphs on GLYPH cells alone, margins on the paper
(R43), and an empty line before READY (R20, R23). -/
structure State.LineSound (s : State) : Prop where
  chain : s.line.Chained
  onPaper : s.line.start ≤ Config.rightEnd ∧ ∀ c ∈ s.line.cells, c.x + c.e ≤ Config.rightEnd
  escapements : ∀ c ∈ s.line.cells ++ s.text.carry, c.kind ≠ .tab → c.e ≤ 36
  tail : s.line.cells.Pairwise fun c d => c.state = .pending → d.state = .pending
  entriesRefer : ∀ e ∈ s.strikes.entries, ∀ id, e.cell = some id →
    ∃ c ∈ s.line.cells, c.id = id ∧ c.inWork
  cellsReferred : ∀ c ∈ s.line.cells, c.inWork → ∃ e ∈ s.strikes.entries, e.cell = some c.id
  spaces : s.line.wrapped = false → ∀ c ∈ s.line.cells, c.kind = .space → c.e ≤ 12
  identities : (s.line.cells.map (·.id)).Nodup ∧ (∀ c ∈ s.line.cells, c.id < s.text.nextCell) ∧
    (s.strikes.entries.map (·.id)).Nodup ∧ ∀ e ∈ s.strikes.entries, e.id < s.strikes.nextId
  groups : GroupsStandTogether s.strikes.entries
  returnEntry : ∀ r, s.line.returnId = some r → r < s.strikes.nextId ∧
    ∀ e ∈ s.strikes.entries, e.id = r → e.cell = none ∧ e.first = true ∧ e.last = true
  glyphs : ∀ c ∈ s.line.cells ++ s.text.carry, 1 ≤ c.glyphs → c.kind = .glyph
  margins : (s.settings.left ≤ Config.rightEnd ∧ s.settings.right ≤ Config.rightEnd) ∧
    s.retained.settings.left ≤ Config.rightEnd ∧ s.retained.settings.right ≤ Config.rightEnd
  startup : s.seq.startup.isSome = true → s.line.cells = [] ∧ s.text.carry = []

/-! ## Relations between two states -/

/-- The mechanism is as it was. -/
def State.sameMechanism (s t : State) : Prop :=
  t.seq = s.seq ∧ t.carrier = s.carrier ∧ t.wheel = s.wheel ∧ t.platen = s.platen ∧
    t.hammer = s.hammer ∧ t.ribbon = s.ribbon ∧ t.inputs = s.inputs

/-- The line, the Text Engine, the Strike Queue, the keys and the Spelling Unit are as they were. -/
def State.sameWork (s t : State) : Prop :=
  t.line = s.line ∧ t.text = s.text ∧ t.strikes = s.strikes ∧ t.keys = s.keys ∧ t.spell = s.spell ∧
    t.pending = s.pending ∧ t.power = s.power

/-- The settings in use and the Retained Area are as they were. -/
def State.sameSettings (s t : State) : Prop := t.settings = s.settings ∧ t.retained = s.retained

/-- A setting is changed in use and in the Retained Area alike, and nothing else of either (R186). -/
def State.setBy (f : Settings → Settings) (s t : State) : Prop :=
  t.settings = f s.settings ∧
    t.retained = { s.retained with settings := f s.retained.settings }

/-- A state right after a start of a kind, its four parts begun: the reset values of the chapters (R20,
R49, R74, R93, R96, R106, R108, R114, R118, R119, R141, R158, R159, R169, R172, R183, R188). -/
structure State.Fresh (kind : StartKind) (t : State) : Prop where
  link : t.link = ⟨.hunt, ⟨none, none, []⟩, none, 0, none, none, none, .idle, false, false⟩
  keys : t.keys = []
  line : t.line = ⟨t.retained.settings.left, .open, t.retained.settings.format, false, none, none,
    none, 0, 0, none, []⟩
  attributes : t.text.bold = false ∧ t.text.underline = false ∧ t.text.marginRelease = false
  text : t.text.bell = false ∧ t.text.carry = [] ∧ t.text.aligned = none ∧ t.text.erase = none
  settings : t.settings = t.retained.settings
  strikes : t.strikes.entries = []
  mech : t.seq.mech = .starting ∧ t.seq.stage = none ∧ t.seq.inFlight = none
  flags : t.seq.pause = false ∧ t.seq.causes = [] ∧ t.seq.fault = none ∧ t.seq.recovering = false
  reckoning : t.seq.baseline = 0 ∧ t.seq.u = 0
  startup : t.seq.startup = some ⟨kind, false, false, false⟩
  carrier : t.carrier.pos = 0 ∧ t.carrier.known = false ∧ t.carrier.marks = 0
  homing : t.carrier.move = .homing (if t.inputs.carrierHome.raw then .offSwitch else .search)
  wheel : t.wheel = ⟨0, false, 1, false, 1, .searching false, 0, none, none⟩
  platen : t.platen = ⟨0, none⟩
  hammer : t.hammer = ⟨600, true, none, none⟩
  ribbon : t.ribbon = ⟨none, none, some ⟨none, 0, 0⟩, false, false, 0⟩
  inputs : ∀ k, (t.inputs.get k).qualified = (t.inputs.get k).raw ∧ (t.inputs.get k).timing = false
  spell : t.spell = ⟨[], [], none, .header .main, .notRead, .notRead, false, false, 0, false⟩
  display : t.display.origin = 0 ∧ t.display.phaseOn = true ∧ t.display.blinkTimer = 250 ∧
    t.display.slot = none ∧ t.display.slotTimer = none
  frame : t.display.current = t.frame ∧ t.display.sending = true ∧ t.display.go = false
  tone : t.tone = ⟨none, none⟩
  rows : ∀ k, (t.notices.rows.row k).raised = false ∧ (t.notices.rows.row k).count = 0 ∧
    (t.notices.rows.row k).data = []
  last : t.notices.last = .frameError

/-! ## Requests (R178, R179) -/

/-- A request with these arguments is taken: the part is live, the receiver is not resynchronising, the
frame holds at most 48 bytes and the request slot is idle (R173, R178). -/
def State.takesRequest (s : State) (args : List Byte) : Prop :=
  s.live = true ∧ s.link.receiver ≠ .resync ∧ args.length ≤ 46 ∧ s.link.slot = none

/-- The state on which a request acts: its frame has been taken in and the slot is busy with it (R173,
R178). -/
def State.onRequest (s : State) (num code : Byte) (args : List Byte) : State :=
  let t := s.takeFrame 0x03 (num :: code :: args)
  { t with link := { t.link with slot := some ⟨num, false⟩ } }

/-- The end of a request's event: its answer is formed, and the render and the transmitter follow (R178;
log entry 12). -/
def State.answering (t s : State) (payload : List Byte) : State :=
  State.finish { t with link := { t.link with slotAnswer := some payload } } s

/-- The answer of a request has been formed: it is being sent where the transmitter was idle, and waits
in the slot otherwise; the slot is busy (R178, R179). -/
def State.answered (s t : State) (payload : List Byte) : Prop :=
  t.link.slot.isSome = true ∧
    match s.link.transmitter with
    | .idle => t.link.transmitter = .sending .answer (frameBytes 0x81 payload)
    | .sending w f => t.link.transmitter = .sending w f ∧ t.link.slotAnswer = some payload

/-! ## Keys (R23, R25) -/

/-- The PENDING GLYPH cell a graphic code makes at a position, with v and the typing attributes (R26,
R28). -/
def State.glyphCell (v : State) (code : Byte) (x : Nat) : Cell :=
  { id := v.text.nextCell, kind := .glyph, code := some code, overCode := none, x := x,
    e := v.glyphE code, voff := v.line.v, bold := v.text.bold, underline := v.text.underline,
    wheelId := none, energy := none, ribbon := none, glyphs := 0, state := .pending, prior := none,
    wordId := none }

/-- The key at the head of the Key Queue, of a kind, is examined and not left in place (R23). -/
def State.takesKey (s : State) (k : KeyKind) (e : KeyEntry) : Prop :=
  s.live = true ∧ s.keys.head? = some e ∧ keyKind e.code = k ∧ s.text.headDue = true ∧
    s.keyHeld k = false

/-- The state on which a printing, layout or line-moving key acts once it is taken: on a RETURNED line
the line has been closed and the next one opened (R25). -/
def State.acting (s : State) : State :=
  if s.line.state = .returned then s.takeHead.nextLine else s.takeHead

end Sys2Proof.Machine
end

