-- ==== Sys2Proof/Certificates/Slice0/Obligations.lean ====
section
/-! DEFINITION. The statements for the provers. Each is a `def Obligations.<Name> : Prop`; OBLIGATIONS.json
lists them in order. -/

open Sys2Proof Sys2Proof.Machine

/-! ## Steps and starts -/

/-- O1. A step carries out the command at the front of the queue on the state with the queue's rest
(95_what_each_step_holds.md; log entry 5); on an empty queue the part idles, which is the model's choice
(log entry 4). -/
def Obligations.FrontCommandRuns : Prop :=
  (∀ (c : Instr) (rest : List Instr) (s : State),
     step { s with pending := c :: rest } = exec c { s with pending := rest }) ∧
  (∀ s : State, s.pending = [] → step s = .next s)

/-- O2. State.reset is the state of the part right after a cold start: every table of reset values holds,
the queue is empty and the Retained Area holds the defaults (R187, R188 and the chapters' tables). That
State.reset is a live part right after a COLD start, with the raw levels it holds, is the model's choice
(log entry 7): R187 makes a RESET a warm start. -/
def Obligations.ResetIsColdStart : Prop :=
  State.reset.Fresh .cold ∧ State.reset.pending = [] ∧ State.reset.retained = .default ∧
    State.reset.live = true

/-- O3. Main power coming up makes a start, warm with a valid marker and cold with an invalid one; a cold
start loads the defaults and a warm start leaves the Retained Area (R187). -/
def Obligations.PowerUpStarts : Prop :=
  ∀ s : State, s.power = ⟨false, false⟩ →
    ∃ t, exec .powerUp s = .next t ∧ t.power = ⟨true, false⟩ ∧ t.pending = s.pending ∧
      (if s.retained.marker then t.Fresh .warm ∧ t.retained = s.retained
        else t.Fresh .cold ∧ t.retained = .default) ∧
      ∀ k, (t.inputs.get k).raw = (s.inputs.get k).raw

/-- O4. The RESET pin returning high, and the last byte of the answer to RESTART, make a warm start that
leaves the Retained Area as it is (R187, R181). -/
def Obligations.ResetPinAndRestartStartWarm : Prop :=
  (∀ s : State, s.power = ⟨true, true⟩ →
    ∃ t, exec .resetPinRelease s = .next t ∧ t.power = ⟨true, false⟩ ∧ t.Fresh .warm ∧
      t.retained = s.retained ∧ t.pending = s.pending) ∧
  (∀ (s : State) (n : Byte) (f : List Byte), s.live = true →
    s.link.transmitter = .sending .answer f → s.link.slot = some ⟨n, true⟩ →
    ∃ t, exec .transmitComplete s = .next t ∧ t.Fresh .warm ∧ t.retained = s.retained ∧
      t.pending = s.pending)

/-- O5. While the RESET pin is low, or main power is below its working level, the part is held at rest
(R187); that the fields here named are those of a part at rest is the model's reading (log entry 8). A
Retained Area that has lost its backup supply holds an invalid marker (R186); that its other items stay is
the model's choice (log entry 10). -/
def Obligations.PowerAndResetHoldAtRest : Prop :=
  (∀ (s : State) (c : Instr), c = .mainPowerFail ∨ c = .resetPinAssert →
     ∃ t, exec c s = .next t ∧ t.live = false ∧ t.retained = s.retained ∧
       t.pending = s.pending ∧ t.carrier.move = .none ∧ t.wheel.move = none ∧
       t.platen.move = none ∧ t.hammer.pulse = none ∧ t.ribbon.ribbonUp = false ∧
       t.ribbon.tapeUp = false ∧ t.ribbon.advance = 0 ∧ t.link.busyLine = false ∧
       t.link.alertLow = false ∧
       t.link.transmitter = .idle ∧ t.display.sending = false ∧ t.tone = ⟨none, none⟩) ∧
  (∀ s : State, exec .backupSupplyLost s =
     .next { s with retained := { s.retained with marker := false } })

/-! ## The link -/

/-- O6. A good KEY frame is offered to the Key Queue by the table of R175, judged against the free count
at that moment: discarded with KEY_LOST in ADJUST, as an early repeat or for a full queue, else joined at
the tail. -/
def Obligations.KeyFrameJoinsOrIsLost : Prop :=
  ∀ (s : State) (code flags : Byte), s.receiving = true →
    ∃ t u : State, exec (.keyFrame code flags) s = .next t ∧ t = u.finish s ∧ s.sameMechanism t ∧
      s.sameSettings t ∧ t.line = s.line ∧ t.strikes = s.strikes ∧ u.link.receiver = .hunt ∧
      (let repeated := decide (flags.toNat % 2 = 1)
       let lost (cause : Byte) := t.keys = s.keys ∧
        u.notices.rows.keyLost = s.notices.rows.keyLost.occur [cause, code, 0]
       if s.seq.mech = .adjust then lost 3
       else if repeated = true ∧ s.keyFree ≤ 16 then lost 1
       else if repeated = false ∧ s.keyFree = 0 then lost 0
       else t.keys = s.keys ++ [⟨code, .key, repeated⟩] ∧ u.notices = s.notices)

/-- O7. A good TEXT frame of k bytes is discarded in ADJUST, refused whole when the free count is less
than k + 8, and otherwise joins the queue byte by byte as R176 maps them: 0x0D to RETURN (0x01), 0x09 to
TAB (0x02), 0x08 to BACKSPACE (0x04), 0x0A to INDEX (0x0A), any other byte below 0x20 to nothing, and
every other byte to itself. -/
def Obligations.TextFrameJoinsOrIsRefused : Prop :=
  (∀ b : Byte, textEntry b = if b = 0x0D then some 0x01 else if b = 0x09 then some 0x02
    else if b = 0x08 then some 0x04 else if b = 0x0A then some 0x0A
    else if b.toNat < 0x20 then none else some b) ∧
  ∀ (s : State) (bytes : List Byte), s.receiving = true → 1 ≤ bytes.length → bytes.length ≤ 48 →
    ∃ t u : State, exec (.textFrame bytes) s = .next t ∧ t = u.finish s ∧ s.sameMechanism t ∧
      s.sameSettings t ∧ t.line = s.line ∧ t.strikes = s.strikes ∧ u.link.receiver = .hunt ∧
      (if s.seq.mech = .adjust then t.keys = s.keys ∧
        u.notices.rows.keyLost = s.notices.rows.keyLost.occur [3, bytes.headD 0, 1]
       else if s.keyFree < bytes.length + 8 then t.keys = s.keys ∧
        u.notices.rows.textRefused =
          s.notices.rows.textRefused.occur [byteOf bytes.length, byteOf s.keyFree]
       else t.keys = s.keys ++ (bytes.filterMap fun b =>
          (textEntry b).map fun c => (⟨c, .text, false⟩ : KeyEntry)) ∧ u.notices = s.notices)

/-- O8. A frame in error, found at a byte or by the 5 ms gap, is logged in an empty log, counted, drives
ALERT low, puts the receiver in RESYNC and raises FRAME_ERROR; nothing but the receiver is touched. In
RESYNC a byte is discarded; when the idle timer expires the receiver enters HUNT and ALERT returns high
(R174). The bytes after the lead byte are judged as R173's table says: KIND, LENGTH, CHECK by the 8-bit sum
of every byte, STOP at any byte of the frame, and a good frame else. That a byte with its stop bit low is
STOP before its KIND, LENGTH or CHECK is judged is the model's reading of R173's "first failure found" (log
entry 11). -/
def Obligations.FrameInErrorIsLoggedUntilIdle : Prop :=
  (∀ (s : State) (c : Instr) (rx : List RxByte) (err : FrameErr) (h : FrameInHand),
     s.receiving = true →
     (c = .frameError rx ∧ judge rx = .error err h [] ∨
       c = .frameGapTimeout rx ∧ err = .gap ∧ judge rx = .incomplete h) →
     ∃ t u : State, exec c s = .next t ∧ t = u.finish s ∧
       t.link.errorLog =
         some (s.link.errorLog.getD ⟨err, h.kind, h.length, h.payload.take 8⟩) ∧
       t.link.errorCount = min 255 (s.link.errorCount + 1) ∧ t.link.alertLow = true ∧
       t.link.receiver = .resync ∧
       u.notices.rows.frameError =
         s.notices.rows.frameError.occur [byteOf err.number, byteOf t.link.errorCount] ∧
       s.sameMechanism t ∧ s.sameWork t ∧ s.sameSettings t ∧ t.tone = s.tone ∧
       t.link.slot = s.link.slot ∧ t.link.busyLine = s.link.busyLine) ∧
  (∀ s : State, exec .resyncByteReceived s = .next s ∧
     (s.live = true → s.link.receiver = .resync →
       exec .resyncIdleExpiry s =
         .next { s with link := { s.link with receiver := .hunt, alertLow := false } })) ∧
  (∀ (k l c : Byte) (p : List Byte) (rest : List RxByte),
     let got (bs : List Byte) : List RxByte := bs.map fun b => ⟨b, false⟩
     let kindGood := k = 0x01 ∨ k = 0x02 ∨ k = 0x03
     let lengthGood := l.toNat ≤ 48 ∧ (k = 0x01 → l.toNat = 2) ∧ (k = 0x02 → l.toNat ≠ 0) ∧
       (k = 0x03 → 2 ≤ l.toNat)
     (¬ kindGood → judge (got [k] ++ rest) = .error .kind ⟨some k, none, []⟩ rest) ∧
     (kindGood → judge (got [k]) = .incomplete ⟨some k, none, []⟩) ∧
     (kindGood → ¬ lengthGood →
       judge (got [k, l] ++ rest) = .error .length ⟨some k, some l, []⟩ rest) ∧
     (kindGood → lengthGood → p.length ≤ l.toNat →
       judge (got (k :: l :: p)) = .incomplete ⟨some k, some l, p⟩) ∧
     (kindGood → lengthGood → p.length = l.toNat →
       judge (got (k :: l :: p ++ [c]) ++ rest) =
         if (k.toNat + l.toNat + (p.map (·.toNat)).sum + c.toNat) % 256 = 0
           then .good ⟨some k, some l, p⟩ rest else .error .check ⟨some k, some l, p⟩ rest)) ∧
  (∀ (early rest : List RxByte) (h : FrameInHand) (v : Byte), judge early = .incomplete h →
     ∃ h', judge (early ++ ⟨v, true⟩ :: rest) = .error .stop h' rest)

/-- O9. When the transmitter completes a frame it chooses the next: the slot answer, else the BUSY answer,
else the notice of the scan, else it becomes idle. The slot becomes idle with its answer's last byte, and
a chosen notice's row is cleared and becomes the last kind sent. The scan starts at the kind after the
last kind sent and takes the first kind that is both pending and enabled (R178, R179, R184). -/
def Obligations.TransmitterChoosesByScan : Prop :=
  (∀ (s : State) (w : Sent) (f : List Byte), s.live = true →
     s.link.transmitter = .sending w f → (w = .answer → ∃ n, s.link.slot = some ⟨n, false⟩) →
     ∃ t, exec .transmitComplete s = .next t ∧ s.sameMechanism t ∧ s.sameWork t ∧
       s.sameSettings t ∧ (t.link.slot = if w = .answer then none else s.link.slot) ∧
       (match s.link.slotAnswer, s.link.busyAnswer, s.notices.choose with
         | some p, _, _ =>
           t.link.transmitter = .sending .answer (frameBytes 0x81 p) ∧ t.link.slotAnswer = none
         | none, some n, _ =>
           t.link.transmitter = .sending .busy (frameBytes 0x81 [n, 0x01]) ∧
             t.link.busyAnswer = none
         | none, none, some k =>
           let r := s.notices.rows.row k
           t.link.transmitter = .sending (.notice k)
               (frameBytes 0x82 (byteOf k.number :: byteOf r.count :: r.data)) ∧
             t.notices.last = k ∧
             t.notices.rows = s.notices.rows.setRow k { r with raised := false, count := 0 }
         | none, none, none => t.link.transmitter = .idle ∧ t.notices = s.notices)) ∧
  (∀ t : NoticeTable,
     let wanted (k : NoticeKind) := (t.rows.row k).raised && (t.rows.row k).enabled
     let place (k : NoticeKind) := (k.number + 13 - t.last.number) % 14
     match t.choose with
     | some k => wanted k = true ∧ ∀ j, wanted j = true → place k ≤ place j
     | none => ∀ j, wanted j = false)

/-! ## Requests -/

/-- O10. SET_MARGINS, SET_TAB, CLEAR_TAB and CLEAR_TABS change their setting and write it to the Retained
Area where R180's checks pass, and are answered DONE; where a check fails every setting stays and the
answer is the result the table gives. The line and the mechanism stay. -/
def Obligations.LayoutRequestsSetOrRefuse : Prop :=
  (∀ (s : State) (num : Byte) (args : List Byte), s.takesRequest args → s.seq.mech ≠ .adjust →
     let done (c : Instr) (f : Settings → Settings) :=
       ∃ t, exec c s = .next t ∧ s.setBy f t ∧ s.answered t [num, 0x00] ∧ s.sameWork t ∧
         s.sameMechanism t
     (∀ l r, wides args = some [l, r] → l < r → r ≤ 1559 → 120 ≤ r - l →
       done (.setMargins num args) fun q => { q with left := l, right := r }) ∧
     (∀ p, wides args = some [p] → p ≤ 1559 → ¬ p ∈ s.settings.tabs →
       s.settings.tabs.length < 16 →
       done (.setTab num args) fun q => { q with tabs := insertStop p q.tabs }) ∧
     (∀ p, wides args = some [p] → p ≤ 1559 → p ∈ s.settings.tabs →
       done (.clearTab num args) fun q => { q with tabs := q.tabs.filter (· ≠ p) }) ∧
     (∀ ps, wides args = some ps → ps.length ≤ 16 → ps.Pairwise (· < ·) →
       (∀ p ∈ ps, p ≤ 1559) →
       done (.clearTabs num args) fun q => { q with tabs := ps })) ∧
  (∀ (s : State) (num : Byte) (args : List Byte), s.takesRequest args → s.seq.mech ≠ .adjust →
     let refused (c : Instr) (r : Byte) :=
       ∃ t, exec c s = .next t ∧ s.sameSettings t ∧ s.answered t [num, r] ∧ s.sameWork t ∧
         s.sameMechanism t
     (args.length ≠ 4 → refused (.setMargins num args) 0x03) ∧
     (∀ l r, wides args = some [l, r] → ¬ (l < r ∧ r ≤ 1559 ∧ 120 ≤ r - l) →
       refused (.setMargins num args) 0x03) ∧
     (args.length ≠ 2 → refused (.setTab num args) 0x03 ∧ refused (.clearTab num args) 0x03) ∧
     (∀ p, wides args = some [p] → 1559 < p →
       refused (.setTab num args) 0x03 ∧ refused (.clearTab num args) 0x03) ∧
     (∀ p, wides args = some [p] → p ≤ 1559 → p ∈ s.settings.tabs →
       refused (.setTab num args) 0x07) ∧
     (∀ p, wides args = some [p] → p ≤ 1559 → ¬ p ∈ s.settings.tabs →
       (16 ≤ s.settings.tabs.length → refused (.setTab num args) 0x05) ∧
       refused (.clearTab num args) 0x06) ∧
     (args.length % 2 = 1 → refused (.clearTabs num args) 0x03) ∧
     (∀ ps, wides args = some ps →
       ¬ (ps.length ≤ 16 ∧ ps.Pairwise (· < ·) ∧ ∀ p ∈ ps, p ≤ 1559) →
       refused (.clearTabs num args) 0x03))

/-- O11. SET_PITCH, SET_SPACING, SET_IMPRESSION, SET_TYPING_MODE and SET_TONE_VOLUME change their setting
in use and in the Retained Area and are answered DONE; an impression is clamped to 1 to 5 and given back;
a format applies at once to an OPEN line with no cells; OFF silences both tones. Arguments outside the
listed values, or of another length, are answered BAD_VALUE, and SET_TYPING_MODE on a line that holds
PENDING cells BAD_STATE, with nothing changed (R180, R171). -/
def Obligations.SettingRequestsSet : Prop :=
  (∀ (s : State) (num b b2 : Byte), s.takesRequest [b] → s.takesRequest [b, b2] →
    s.seq.mech ≠ .adjust →
    let rest (t : State) := t.text = s.text ∧ t.strikes = s.strikes ∧ t.keys = s.keys ∧
      t.spell = s.spell ∧ s.sameMechanism t
    (∀ p, pitchArg b = some p → ∃ t, exec (.setPitch num [b]) s = .next t ∧
      s.setBy (fun q => { q with pitch := p }) t ∧ s.answered t [num, 0x00] ∧ rest t ∧
      t.line = s.line) ∧
    (∀ p, spacingArg b = some p → ∃ t, exec (.setSpacing num [b]) s = .next t ∧
      s.setBy (fun q => { q with spacing := p }) t ∧ s.answered t [num, 0x00] ∧ rest t ∧
      t.line = s.line) ∧
    (∃ t, exec (.setImpression num [b]) s = .next t ∧
      s.setBy (fun q => { q with impression := max 1 (min 5 b.toNat) }) t ∧
      s.answered t [num, 0x00, byteOf (max 1 (min 5 b.toNat))] ∧ rest t ∧ t.line = s.line) ∧
    (∀ m f, modeArg b = some m → formatArg b2 = some f → s.line.settled = true →
      ∃ t, exec (.setTypingMode num [b, b2]) s = .next t ∧
        s.setBy (fun q => { q with mode := m, format := f }) t ∧ s.answered t [num, 0x00] ∧
        rest t ∧ t.line = (if s.line.state = .open ∧ s.line.cells = []
          then { s.line with format := f } else s.line)) ∧
    (∀ v, volumeArg b = some v → ∃ t, exec (.setToneVolume num [b]) s = .next t ∧
      s.setBy (fun q => { q with volume := v }) t ∧ s.answered t [num, 0x00] ∧ rest t ∧
      t.line = s.line ∧ t.tone = if v = .off then ⟨none, none⟩ else s.tone)) ∧
  (∀ (s : State) (num : Byte) (args : List Byte), s.takesRequest args → s.seq.mech ≠ .adjust →
    let refused (c : Instr) (r : Byte) :=
      ∃ t, exec c s = .next t ∧ s.sameSettings t ∧ s.answered t [num, r] ∧ s.sameWork t ∧
        s.sameMechanism t ∧ t.tone = s.tone
    (args.length ≠ 1 → refused (.setPitch num args) 0x03 ∧ refused (.setSpacing num args) 0x03 ∧
      refused (.setImpression num args) 0x03 ∧ refused (.setSpellMode num args) 0x03 ∧
      refused (.setToneVolume num args) 0x03) ∧
    (args.length ≠ 2 → refused (.setTypingMode num args) 0x03) ∧
    (∀ b, args = [b] →
      (pitchArg b = none → refused (.setPitch num args) 0x03) ∧
      (spacingArg b = none → refused (.setSpacing num args) 0x03) ∧
      (spellArg b = none → refused (.setSpellMode num args) 0x03) ∧
      (volumeArg b = none → refused (.setToneVolume num args) 0x03)) ∧
    (∀ b b2, args = [b, b2] →
      (modeArg b = none ∨ formatArg b2 = none → refused (.setTypingMode num args) 0x03) ∧
      (∀ m f, modeArg b = some m → formatArg b2 = some f → s.line.settled = false →
        refused (.setTypingMode num args) 0x02)))

/-- O12. SET_SPELL_MODE changes the spelling mode in its event, before the release run is examined and the
Print Sequencer decides (the order of log entry 12). To OFF, every word record is discarded: afterwards
the Word Table and the Lookup Queue are empty, a lookup in progress is dropped, no cell keeps a word id
and no "? word" message stands. From OFF to ALERT or HOLD every word run of a closed token is recorded.
Between ALERT and HOLD the records stand (R153, R143). A new record is SKIPPED by R143's four cases, else
takes the first path of R146's table, its cells its id. A record is cancelled where R145 says, a removal
that brings a letter beside it cancelling nothing (log entry 44); its cells lose their id, its Lookup Queue
entry goes, its lookup is dropped, its message goes. -/
def Obligations.SpellModeRequestActs : Prop :=
  (∀ (s : State) (i n : Nat) (head : Cell), s.line.cells[i]? = some head →
    let cells := s.line.cells
    let codes := ((cells.drop i).take n).filterMap (·.code)
    let letters := (foldCodes codes).getD []
    let digitOrGap (c : Cell) := c.kind = .gap ∨
      c.kind = .glyph ∧ ∃ b, c.code = some b ∧ 0x30 ≤ b.toNat ∧ b.toNat ≤ 0x39
    let skip := 24 < n ∨ (∃ c, 0 < i ∧ cells[i - 1]? = some c ∧ digitOrGap c) ∨
      (∃ c, cells[i + n]? = some c ∧ digitOrGap c) ∨
      n ≤ 5 ∧ ∀ b ∈ codes, ¬ (0x61 ≤ b.toNat ∧ b.toNat ≤ 0x7A)
    let known := letters ∈ s.retained.words
    let full := 8 ≤ s.spell.lookups.length
    let t := s.recordRun (i, n)
    ∃ r ∈ t.spell.table, r.first = head.id ∧ r.count = n ∧ r.accepted = false ∧
      r.letters = (if 24 < n then none else some letters) ∧
      (∀ j, t.line.cells[j]? = cells[j]?.map fun c =>
        if i ≤ j ∧ j < i + n then { c with wordId := some r.id } else c) ∧
      (skip → r.state = .skipped) ∧
      (¬ skip → known → r.state = .known) ∧
      (¬ skip → ¬ known → s.spell.main = .absent → r.state = .unchecked) ∧
      (¬ skip → ¬ known → s.spell.main ≠ .absent → full → r.state = .unchecked ∧
        t.notices.rows.spell = s.notices.rows.spell.occur (0x01 :: byteOf r.id :: t.typedCodes r)) ∧
      (skip ∨ known ∨ s.spell.main = .absent ∨ full → t.spell.lookups = s.spell.lookups ∧
        t.spell.lookup = s.spell.lookup ∧ t.spell.port = s.spell.port) ∧
      (skip ∨ known ∨ s.spell.main = .absent ∨ ¬ full → t.notices = s.notices) ∧
      (¬ skip → ¬ known → s.spell.main ≠ .absent → ¬ full →
        (s.spell.port ≠ .idle → r.state = .waiting ∧
          t.spell.lookups = s.spell.lookups ++ [⟨r.id, letters⟩]) ∧
        (s.spell.port = .idle → s.spell.lookup = none → s.spell.lookups = [] →
          r.state = .looking ∧ t.spell.lookups = [] ∧
          t.spell.lookup = some ⟨r.id, letters, false, .main, 0⟩))) ∧
  (∀ (s : State) (r : WordRecord),
    let t := s.cancelRecord r
    t.spell.table = s.spell.table.filter (fun q => !decide (q.id = r.id)) ∧
      t.spell.lookups = s.spell.lookups.filter (fun q => !decide (q.id = r.id)) ∧
      t.line.cells = s.line.cells.map (fun c =>
        if c.wordId = some r.id then { c with wordId := none } else c) ∧
      t.spell.lookup = s.spell.lookup.map (fun l =>
        if l.id = r.id ∧ r.state = .looking then { l with dropped := true } else l) ∧
      (r.state = .unknown → ∀ m, t.display.slot = some m → m.word ≠ some r.id)) ∧
  (∀ (s : State) (before : List Cell) (r : WordRecord), (s.spell.table.map (·.id)).Nodup →
    r ∈ s.spell.table →
    let after := s.line.cells
    let seen (c : Cell) := (c.id, c.kind, c.code)
    let came (old new : Option Cell) := ∃ c, new = some c ∧
      (c.kind = .gap ∧ old.map seen ≠ some (seen c) ∨
        c.kind = .glyph ∧ (∃ b, c.code = some b ∧
          (isLetter b = true ∨ b = 0x27 ∨ 0x30 ≤ b.toNat ∧ b.toNat ≤ 0x39)) ∧
          ∀ d ∈ before, seen d ≠ seen c)
    let stays := r ∈ (s.cancelBroken before).spell.table
    (cellIndex r.first after = none → ¬ stays) ∧
    (∀ i j, cellIndex r.first before = some i → cellIndex r.first after = some j →
      (stays ↔ (∀ k, k < r.count → before[i + k]?.map seen = after[j + k]?.map seen) ∧
        ¬ came (cellBefore before i) (cellBefore after j) ∧
        ¬ came before[i + r.count]? after[j + r.count]?))) ∧
  ∀ (s : State) (num b : Byte) (m : SpellMode), s.takesRequest [b] → s.seq.mech ≠ .adjust →
    spellArg b = some m →
    let was := s.settings.spell
    let v := (s.onRequest num 0x09 [b]).writeSettings fun q => { q with spell := m }
    let u :=
      if m = .off ∧ was ≠ .off then v.discardRecords
      else if m ≠ .off ∧ was = .off then v.recordAll
      else v
    ∃ t, exec (.setSpellMode num [b]) s = .next t ∧
      t = u.runExamine.sequence.answering s [num, 0x00] ∧ s.answered t [num, 0x00] ∧
      s.setBy (fun q => { q with spell := m }) t ∧ t.keys = s.keys ∧
      (m = .off → was ≠ .off → t.spell.table = [] ∧ t.spell.lookups = [] ∧
        t.spell.lookup = s.spell.lookup.map (fun l => { l with dropped := true }) ∧
        (∀ c ∈ t.line.cells, c.wordId = none) ∧
        ∀ w, t.display.slot = some w → w.isWord = false) ∧
      (m ≠ .off → was = .off → ∀ run ∈ wordRuns s.line.cells, 2 ≤ run.2 →
        openToken s.line.cells s.spell.endClosed run.1 = false → u.covered run = true) ∧
      (m ≠ .off → was ≠ .off → u.spell = s.spell ∧ u.line = s.line)

/-- O13. The ADD_WORD and REMOVE_WORD requests fold their letters and change the User Word List in the
Retained Area, or are answered BAD_VALUE, ALREADY, LIST_FULL or NOT_FOUND (R157). ENABLE_NOTICES and
DISABLE_NOTICES set or clear the enabled flag of each kind their mask names and write the notice mask; a
mask that names a kind that does not exist is answered BAD_VALUE (R180). -/
def Obligations.WordAndMaskRequests : Prop :=
  (∀ (s : State) (num : Byte) (args : List Byte) (w : List Nat), s.takesRequest args →
     s.seq.mech ≠ .adjust → foldCodes args = some w → 2 ≤ args.length → args.length ≤ 24 →
     let words := s.retained.words
     let ends (c : Instr) (r : Byte) (ws : List (List Nat)) :=
       ∃ t, exec c s = .next t ∧ s.answered t [num, r] ∧
         t.retained = { s.retained with words := ws } ∧ t.settings = s.settings ∧ s.sameWork t ∧
         s.sameMechanism t
     (wordForm w = false → ends (.addWordRequest num args) 0x03 words) ∧
     (wordForm w = true → w ∈ words → ends (.addWordRequest num args) 0x07 words) ∧
     (wordForm w = true → ¬ w ∈ words → 48 ≤ words.length →
       ends (.addWordRequest num args) 0x05 words) ∧
     (wordForm w = true → ¬ w ∈ words → words.length < 48 →
       ends (.addWordRequest num args) 0x00 (words ++ [w])) ∧
     (w ∈ words → ends (.removeWord num args) 0x00 (words.filter (· ≠ w))) ∧
     (¬ w ∈ words → ends (.removeWord num args) 0x06 words)) ∧
  (∀ (s : State) (num : Byte) (args : List Byte) (m : Nat) (on : Bool), s.takesRequest args →
     s.seq.mech ≠ .adjust → wides args = some [m] →
     let c : Instr := if on then .enableNotices num args else .disableNotices num args
     (m < 2 ^ 14 → ∃ t, exec c s = .next t ∧ s.answered t [num, 0x00] ∧ s.sameWork t ∧
       s.sameMechanism t ∧ t.settings = s.settings ∧
       (∀ k, (t.notices.rows.row k).enabled =
         if m.testBit (k.number - 1) then on else (s.notices.rows.row k).enabled) ∧
       t.retained = { s.retained with
         mask := NoticeKind.all.map fun k => (t.notices.rows.row k).enabled }) ∧
     (2 ^ 14 ≤ m → ∃ t, exec c s = .next t ∧ s.answered t [num, 0x03] ∧ s.sameWork t ∧
       s.sameMechanism t ∧ s.sameSettings t))

/-- O14. READ_PAGE is answered with the page as it stands in the event, page 0 being the test pattern
and page 2 being 45 bytes; READ_LINE with w, c, n, the line state and 20 window columns; nothing else
changes. Pages 1, 2 and 3 hold their bytes as R185 lays them out. WRITE_TEST_PATTERN replaces page 0 in
the Retained Area; CLEAR_ERROR_LOG empties the log, zeroes the count and answers with the count as it
stood (R181, R182, R185). -/
def Obligations.ReadingAndLogRequests : Prop :=
  (∀ (s : State) (num b : Byte), s.takesRequest [b] →
     let reads (c : Instr) (data : List Byte) :=
       ∃ t, exec c s = .next t ∧ s.answered t (num :: 0x00 :: data) ∧ s.sameWork t ∧
         s.sameMechanism t ∧ s.sameSettings t ∧ t.tone = s.tone
     (b = 0 → reads (.readPage num [b]) s.retained.pattern) ∧
     (b = 1 → reads (.readPage num [b]) s.link.page1) ∧
     (b = 2 → reads (.readPage num [b]) s.page2) ∧
     (b = 3 → reads (.readPage num [b]) s.page3) ∧
     s.page2.length = 45 ∧
     (b.toNat ≤ 1 → s.seq.mech ≠ .adjust → reads (.readLine num [b])
       ([byteOf s.display.origin, byteOf s.line.cursor, byteOf s.line.cells.length,
         byteOf s.line.state.number] ++ (List.range 20).flatMap fun j =>
           s.line.column (s.display.origin + 20 * b.toNat + j)))) ∧
  (∀ (s : State) (num : Byte), s.takesRequest [] → s.seq.mech ≠ .adjust →
     (∀ args, args.length = 16 → ∃ t, exec (.writeTestPattern num args) s = .next t ∧
       s.answered t [num, 0x00] ∧ t.retained = { s.retained with pattern := args } ∧
       t.settings = s.settings ∧ s.sameWork t ∧ s.sameMechanism t) ∧
     (∃ t, exec (.clearErrorLog num []) s = .next t ∧
       s.answered t [num, 0x00, byteOf s.link.errorCount] ∧ t.link.errorLog = none ∧
       t.link.errorCount = 0 ∧ s.sameSettings t ∧ s.sameWork t ∧ s.sameMechanism t)) ∧
  (∀ s : State,
     let wide (n : Nat) : List Byte := [byteOf (n / 256), byteOf n]
     let exponent (d : DictStatus) := match d with | .present n => Nat.log2 n | _ => 0
     let status (d : DictStatus) := match d with | .notRead => 0 | .absent => 1 | .present _ => 2
     (s.link.errorLog = none →
       s.link.page1 = List.replicate 13 0x00 ++ [byteOf s.link.errorCount]) ∧
     (∀ r, s.link.errorLog = some r → s.link.page1 =
       [byteOf (1 + (if r.kind = none then 0 else 2) + (if r.length = none then 0 else 4)),
         (match r.error with
           | .check => 0x01 | .length => 0x02 | .kind => 0x03 | .gap => 0x04 | .stop => 0x05),
         r.kind.getD 0x00, r.length.getD 0x00, byteOf r.payload.length] ++
       (List.range 8).map (fun j => r.payload.getD j 0x00) ++ [byteOf s.link.errorCount]) ∧
     s.page2 = wide s.settings.left ++ wide s.settings.right ++
       ((List.range 16).flatMap fun j => match s.settings.tabs[j]? with
         | some p => wide p | none => [0xFF, 0xFF]) ++
       [byteOf (64 * (match s.settings.pitch with
             | .native => 0 | .ten => 1 | .twelve => 2 | .fifteen => 3) +
           (match s.settings.spacing with
             | .s8 => 0 | .s12 => 1 | .s16 => 2 | .s20 => 3 | .s24 => 4)),
         byteOf s.settings.impression,
         byteOf (16 * (match s.settings.mode with | .direct => 0 | .word => 1 | .line => 2) +
           (match s.settings.format with
             | .normal => 0 | .center => 1 | .flushRight => 2 | .justify => 3)),
         byteOf (16 * (match s.settings.spell with | .off => 0 | .alert => 1 | .hold => 2) +
           (match s.settings.volume with | .off => 0 | .low => 1 | .high => 2)),
         BitVec.ofInt 8 s.retained.impression, BitVec.ofInt 8 s.retained.wheelPhase,
         BitVec.ofInt 8 s.retained.printOffset] ++
       wide ((NoticeKind.all.map fun k =>
         if (s.notices.rows.row k).enabled then 2 ^ (k.number - 1) else 0).sum) ∧
     s.page3 =
       [byteOf s.wheel.id, byteOf s.wheel.family,
         byteOf ((if 1 ≤ s.wheel.id ∧ s.wheel.id ≤ 9 then 0 else 1) +
           (if s.wheel.present then 2 else 0)),
         (match s.ribbon.kind with
           | none => 0x00 | some .fabric => 0x01 | some .film => 0x02 | some .multi => 0x03),
         (match s.ribbon.tape with
           | none => 0x00 | some .liftTape => 0x01 | some .coverTape => 0x02),
         byteOf (status s.spell.main), byteOf (status s.spell.supplement),
         byteOf (exponent s.spell.main), byteOf (exponent s.spell.supplement),
         byteOf (s.hammer.heat / 256), byteOf s.hammer.heat,
         (match s.seq.mech with
           | .starting => 0x00 | .idle => 0x01 | .running => 0x02 | .paused => 0x03
           | .halted => 0x04 | .fault => 0x05 | .adjust => 0x06),
         byteOf ((s.seq.causes.map fun k => match k with
           | .coverOpen => 1 | .paperOut => 2 | .ribbonAbsent => 4 | .ribbonEnd => 8
           | .noWheel => 16 | .tapeAbsent => 32 | .tapeEnd => 64).sum),
         (match s.seq.fault with
           | none => 0x00 | some .carrierStall => 0x01 | some .carrierHome => 0x02
           | some .wheelHome => 0x03 | some .wheelId => 0x04 | some .hammer => 0x05),
         byteOf (32 - s.strikes.entries.length)])

/-- O15. PAUSE sets the pause flag and CONTINUE clears it, each answered DONE outside STARTING and ADJUST,
and the Print Sequencer decides in that event: with no halt cause, PAUSE in IDLE gives PAUSED, and
CONTINUE in PAUSED with an empty Strike Queue gives IDLE. PRINT_HOLD sets the flag when it is clear and
clears it when it is set, and the decision follows in the event that takes it (R75, R87, R48). -/
def Obligations.PauseAndContinue : Prop :=
  (∀ (s : State) (num : Byte) (p : Bool), s.takesRequest [] → s.seq.mech ≠ .starting →
    s.seq.mech ≠ .adjust →
    let v := s.onRequest num (if p then 0x13 else 0x14) []
    let u : State := { v with seq := { s.seq with pause := p } }
    ∃ t, exec (if p then .pauseRequest num [] else .continueRequest num []) s = .next t ∧
      t = u.sequence.answering s [num, 0x00] ∧ s.answered t [num, 0x00] ∧
      t.seq = u.sequence.seq ∧ t.seq.pause = p ∧ t.keys = s.keys ∧ s.sameSettings t ∧
      (p = true → s.seq.mech = .idle → s.causesNow = [] → t.seq.mech = .paused) ∧
      (p = false → s.seq.mech = .paused → s.causesNow = [] → s.strikes.entries = [] →
        t.seq.mech = .idle)) ∧
  (∀ (s : State) (e : KeyEntry), s.takesKey .printHold e →
    let u : State := { s.takeHead with seq := { s.seq with pause := !s.seq.pause } }
    exec .printHold s = .next (u.conclude s) ∧ (u.conclude s).seq.pause = !s.seq.pause ∧
      (u.conclude s).keys = s.keys.tail ∧ s.sameSettings (u.conclude s))

/-- O16. RESUME in FAULT, with the cover closed and no homing or identification running, is answered DONE
and begins the homing; in every other case it is answered NOT_READY or BAD_STATE and nothing changes
(R90). That the homing takes the place of a carrier move still in progress is the model's choice (log
entry 55). -/
def Obligations.ResumeBeginsHoming : Prop :=
  ∀ (s : State) (num : Byte), s.takesRequest [] →
    (s.seq.mech = .fault → s.seq.recovering = false → s.inputs.cover.qualified = false →
      s.wheel.ident = .idle → (∀ st, s.carrier.move ≠ .homing st) →
      ∃ t, exec (.resume num []) s = .next t ∧ s.answered t [num, 0x00] ∧
        t.seq = { s.seq with recovering := true } ∧
        t.carrier = { s.carrier with
          move := .homing (if s.inputs.carrierHome.qualified then .offSwitch else .search) } ∧
        s.sameWork t ∧ s.sameSettings t) ∧
    (∀ r : Byte, (s.seq.mech = .starting ∧ r = 0x09 ∨
        s.seq.mech = .fault ∧ (s.seq.recovering = true ∨ s.inputs.cover.qualified = true ∨
          s.wheel.ident ≠ .idle ∨ ∃ st, s.carrier.move = .homing st) ∧ r = 0x09 ∨
        s.seq.mech ≠ .starting ∧ s.seq.mech ≠ .fault ∧ r = 0x02) →
      ∃ t, exec (.resume num []) s = .next t ∧ s.answered t [num, r] ∧ s.sameMechanism t ∧
        s.sameWork t ∧ s.sameSettings t)

/-- O17. RESTART is answered DONE in every state and marks its answer as the one a warm start follows;
SOUND_TONE asks for its tone with the repeat flag clear and is answered DONE (R181). -/
def Obligations.RestartAndToneRequests : Prop :=
  ∀ (s : State) (num : Byte), s.takesRequest [] →
    (∃ t, exec (.restart num []) s = .next t ∧ s.answered t [num, 0x00] ∧
      t.link.slot = some ⟨num, true⟩ ∧ s.sameMechanism t ∧ s.sameWork t ∧ s.sameSettings t) ∧
    (∀ b k, toneArg b = some k → ∃ t, exec (.soundTone num [b]) s = .next t ∧
      s.answered t [num, 0x00] ∧ t.tone = s.tone.request s.settings.volume k false ∧
      s.sameMechanism t ∧ s.sameWork t ∧ s.sameSettings t)

/-- O18. ENTER_ADJUST from IDLE on an OPEN line with no cells puts the mechanism in ADJUST with the test
position at s, and is answered BAD_STATE otherwise; ADJUST_STEP moves a trim within its range and writes
it, and is answered AT_LIMIT where it would leave it (R190, R191). -/
def Obligations.AdjustEntryAndSteps : Prop :=
  (∀ (s : State) (num : Byte), s.takesRequest [] → s.seq.mech ≠ .starting →
    if s.seq.mech = .idle ∧ s.line.state = .open ∧ s.line.cells = [] then
      ∃ t, exec (.enterAdjust num []) s = .next t ∧ s.answered t [num, 0x00] ∧
        t.seq = { s.seq with mech := .adjust, testPos := some s.line.start } ∧ s.sameWork t ∧
        s.sameSettings t
    else ∃ t, exec (.enterAdjust num []) s = .next t ∧ s.answered t [num, 0x02] ∧
      s.sameMechanism t ∧ s.sameWork t ∧ s.sameSettings t) ∧
  (∀ (s : State) (num a b : Byte) (k : Trim) (d : Int), s.takesRequest [a, b] →
    s.seq.mech = .adjust → trimArg a = some k → trimStep b = some d →
    let v := s.retained.trim k + d
    if -k.limit ≤ v ∧ v ≤ k.limit then
      ∃ t, exec (.adjustStep num [a, b]) s = .next t ∧ s.answered t [num, 0x00] ∧
        t.retained.trim k = v ∧ (∀ j, j ≠ k → t.retained.trim j = s.retained.trim j) ∧
        t.retained.settings = s.retained.settings ∧ t.retained.words = s.retained.words ∧
        t.settings = s.settings ∧ s.sameMechanism t ∧ s.sameWork t
    else ∃ t, exec (.adjustStep num [a, b]) s = .next t ∧ s.answered t [num, 0x08] ∧
      s.sameSettings t ∧ s.sameMechanism t ∧ s.sameWork t)

/-- O19. A TEST_STRIKE that passes its four checks is answered DONE and begins one strike of the code at
the test position, outside the queue; LEAVE_ADJUST is answered DONE and begins the carrier move back to
the line start (R192, R193). -/
def Obligations.TestStrikeAndLeaveAdjust : Prop :=
  (∀ (s : State) (num code : Byte) (pos p : Nat), s.takesRequest [code] → s.seq.mech = .adjust →
    petal s.wheel.family code = some p → s.seq.testStrike = none → s.seq.leaving = false →
    s.noCauseForPrint = true → s.seq.testPos = some pos → pos + s.glyphE code ≤ 1560 →
    s.wheel.known = true → s.wheel.angle ≠ petalAngle p s.retained.wheelPhase →
    s.carrier.known = true → s.carrier.pos ≠ target pos s.retained.printOffset →
    s.platen.move = none →
    ∃ t e, exec (.testStrike num [code]) s = .next t ∧ s.answered t [num, 0x00] ∧
      t.seq.testStrike = some e ∧ e.kind = .print ∧ e.petal = some p ∧
      e.energy = some (energyIndex (energyClass s.wheel.family code) s.settings.impression
        s.ribbon.kind s.retained.impression) ∧
      e.width = some (s.glyphE code) ∧ t.seq.stage = some .position ∧ t.seq.mech = .adjust ∧
      t.carrier.move = .moving (target pos s.retained.printOffset) ∧
      t.wheel.move = some (petalAngle p s.retained.wheelPhase) ∧ t.platen = s.platen ∧
      s.sameWork t ∧ s.sameSettings t) ∧
  (∀ (s : State) (num : Byte), s.takesRequest [] → s.seq.mech = .adjust →
    s.seq.testStrike = none → s.seq.leaving = false → s.carrier.known = true →
    s.carrier.pos ≠ target s.line.start s.retained.printOffset →
    ∃ t, exec (.leaveAdjust num []) s = .next t ∧ s.answered t [num, 0x00] ∧
      t.seq.leaving = true ∧ t.seq.mech = .adjust ∧
      t.carrier.move = .moving (target s.line.start s.retained.printOffset) ∧
      s.sameWork t ∧ s.sameSettings t)

/-- O20. The mechanism state gates the requests before any other check: a request whose code is not listed
is answered UNKNOWN, or BAD_STATE in ADJUST; PAUSE, CONTINUE, RESUME, ENTER_ADJUST and the service
requests are answered NOT_READY in STARTING; the service requests are answered BAD_STATE elsewhere (R180,
R181). That an unlisted code is BAD_STATE in ADJUST, and a service request BAD_STATE outside ADJUST, are
the model's choices (log entries 31 and 34). A request that finds the slot busy is not acted on: it leaves
a BUSY answer with its number where none waits, and is discarded where one does (R178). -/
def Obligations.RequestsAreGatedOneAtATime : Prop :=
  (∀ (s : State) (num code : Byte) (args : List Byte) (c : Instr) (r : Byte),
     s.takesRequest args →
     (c = .unknownRequestCode num code args ∧ listedCode code = false ∧
         (r = if s.seq.mech = .adjust then 0x02 else 0x04) ∨
       (c ∈ [Instr.pauseRequest num args, .continueRequest num args, .resume num args,
           .enterAdjust num args, .adjustStep num args, .testStrike num args,
           .leaveAdjust num args]) ∧ s.seq.mech = .starting ∧ r = 0x09 ∨
       (c ∈ [Instr.adjustStep num args, .testStrike num args, .leaveAdjust num args]) ∧
         s.seq.mech ≠ .starting ∧ s.seq.mech ≠ .adjust ∧ r = 0x02 ∨
       (c ∈ [Instr.setMargins num args, .setTab num args, .clearTab num args, .clearTabs num args,
           .setPitch num args, .setSpacing num args, .setImpression num args,
           .setTypingMode num args, .setSpellMode num args, .setToneVolume num args,
           .addWordRequest num args, .removeWord num args, .enableNotices num args,
           .disableNotices num args, .writeTestPattern num args, .clearErrorLog num args,
           .readLine num args, .pauseRequest num args, .continueRequest num args,
           .resume num args, .enterAdjust num args]) ∧ s.seq.mech = .adjust ∧ r = 0x02) →
     ∃ t, exec c s = .next t ∧ s.answered t [num, r] ∧ s.sameMechanism t ∧ s.sameWork t ∧
       s.sameSettings t ∧ t.tone = s.tone) ∧
  (∀ (s : State) (num code : Byte) (args : List Byte) (c : Instr) (q : SlotRequest),
     s.live = true → s.link.receiver ≠ .resync → args.length ≤ 46 → s.link.slot = some q →
     (∃ w f, s.link.transmitter = .sending w f) →
     (c = .unknownRequestCode num code args ∧ listedCode code = false ∨
       c ∈ [Instr.setMargins num args, .setTab num args, .clearTab num args,
         .clearTabs num args, .setPitch num args, .setSpacing num args, .setImpression num args,
         .setTypingMode num args, .setSpellMode num args, .setToneVolume num args,
         .addWordRequest num args, .removeWord num args, .enableNotices num args,
         .disableNotices num args, .readPage num args, .writeTestPattern num args,
         .clearErrorLog num args, .readLine num args, .pauseRequest num args,
         .continueRequest num args, .resume num args, .restart num args, .soundTone num args,
         .enterAdjust num args, .adjustStep num args, .testStrike num args,
         .leaveAdjust num args]) →
     ∃ t, exec c s = .next t ∧ t.link.slot = some q ∧ t.link.slotAnswer = s.link.slotAnswer ∧
       t.link.busyAnswer = some (s.link.busyAnswer.getD num) ∧ s.sameMechanism t ∧
       s.sameWork t ∧ s.sameSettings t ∧ t.tone = s.tone ∧ t.notices = s.notices)

/-! ## Keys -/

/-- O21. BOLD and UNDERLINE turn their attribute on when it is off and off when it is on, in every line
state; settings and the other attribute stay. CENTER and FLUSH_RIGHT set the format of a record with no
cells and are refused with CLICK on one that holds cells; MARGIN_RELEASE turns margin release on or off.
On a RETURNED line each of these three first starts the next line (R25, R37, R42). -/
def Obligations.AttributeAndFormatKeys : Prop :=
  (∀ (s : State) (e : KeyEntry),
     (s.takesKey .bold e → ∃ t, exec .bold s = .next t ∧ t.text.bold = !s.text.bold ∧
       t.text.underline = s.text.underline ∧ t.keys = s.keys.tail ∧ s.sameSettings t) ∧
     (s.takesKey .underline e → ∃ t, exec .underline s = .next t ∧
       t.text.underline = !s.text.underline ∧ t.text.bold = s.text.bold ∧ t.keys = s.keys.tail ∧
       s.sameSettings t)) ∧
  (∀ (s : State) (e : KeyEntry) (k : KeyKind) (c : Instr), s.takesKey k e →
     s.line.state ≠ .returnWait →
     (∀ f, (k = .center ∧ c = .center ∧ f = Format.center ∨
         k = .flushRight ∧ c = .flushRight ∧ f = Format.flushRight) →
       ∃ u : State, exec c s = .next (u.conclude s) ∧
         if s.acting.line.cells = [] then u = { s.acting with
           line := { s.acting.line with format := f } }
         else u = s.acting.requestTone .click false) ∧
     (k = .marginRelease → ∃ u : State, exec .marginRelease s = .next (u.conclude s) ∧
       u = { s.acting with
         text := { s.acting.text with marginRelease := !s.acting.text.marginRelease } }))

/-- O22. SET_LEFT, SET_RIGHT, TAB_SET and TAB_CLEAR act at the end position of the line they act on and
write their setting to the Retained Area, or are refused with every setting as it was (R43, R44). -/
def Obligations.LayoutKeysSet : Prop :=
  ∀ (s : State) (e : KeyEntry), s.line.state ≠ .returnWait →
    let x := s.acting.line.endPos
    let l := s.settings.left
    let r := s.settings.right
    let tabs := s.settings.tabs
    let sets (c : Instr) (f : Settings → Settings) :=
      ∃ t, exec c s = .next t ∧ s.setBy f t ∧ t.keys = s.keys.tail
    (s.takesKey .setLeft e → if x < r ∧ r ≤ 1559 ∧ 120 ≤ r - x
      then sets .setLeft fun q => { q with left := x } else sets .setLeft id) ∧
    (s.takesKey .setRight e → if l < x ∧ x ≤ 1559 ∧ 120 ≤ x - l
      then sets .setRight fun q => { q with right := x } else sets .setRight id) ∧
    (s.takesKey .tabSet e → if tabs.length < 16 ∧ x ∉ tabs ∧ x ≠ 1560
      then sets .tabSet fun q => { q with tabs := insertStop x q.tabs } else sets .tabSet id) ∧
    (s.takesKey .tabClear e → if x ∈ tabs
      then sets .tabClear fun q => { q with tabs := q.tabs.filter (· ≠ x) } else sets .tabClear id)

/-- O23. A graphic code whose glyph is on the wheel and fits the margin makes one PENDING GLYPH cell with
v and the typing attributes: appended at the end, in DIRECT typing released at once, or inserted at the
cursor, the cells after it re-placed. In the struck region it fills the GAP at the cursor, else
overstrikes the cell before it, its group joining the Strike Queue at once. Past R on a line that wraps,
the carry word and the new cell are kept aside and a run with ending WRAP is started; at its end the line
is closed and the carry stands on the new line (R26 to R30, R34, R35, R10). That a group planned with no
wheel present carries the id in force is the model's reading (log entry 17). -/
def Obligations.GraphicCodeAppendsCell : Prop :=
  (∀ (s : State) (e : KeyEntry), s.takesKey .graphic e → s.line.state ≠ .returnWait →
    let v := s.acting
    let n := v.line.cells.length
    let x := v.line.endPos
    let w := v.glyphE e.code
    v.line.Chained → n < 160 → v.text.aligned = none →
    (petal v.wheel.family e.code).isSome = true → x + w ≤ v.limit →
    (∀ r, v.line.run = some r → r.b ≤ n) →
    let makes (cells : List Cell) (run : Option Run) :=
      ∃ u : State, exec .graphicCode s = .next (u.conclude s) ∧
        u.line = { v.line with cells := cells, cursor := v.line.cursor + 1, run := run } ∧
        u.strikes = v.strikes ∧ v.sameMechanism u ∧ v.sameSettings u ∧ u.keys = s.keys.tail ∧
        u.notices = v.notices
    (v.line.cursor = n → (v.wraps = true → x + w ≤ v.settings.right) → 9 ≤ v.strikeFree →
      makes (v.line.cells ++ [v.glyphCell e.code x])
        (if v.releasesAtOnce = true then some (extendRun v.line.run (n + 1) .none)
          else v.line.run)) ∧
    (∀ c d, v.line.cells[v.line.cursor]? = some c → v.line.cells[v.line.cursor - 1]? = some d →
      d.state = .pending →
      (∀ a ∈ v.line.cells.drop v.line.cursor, a.state = .pending ∧ a.kind ≠ .tab) →
      makes (v.line.cells.take v.line.cursor ++ v.glyphCell e.code c.x ::
          chainFrom (c.x + w) (v.line.cells.drop v.line.cursor))
        (v.line.run.map fun r => { r with b := if v.line.cursor < r.b then r.b + 1 else r.b }))) ∧
  (∀ (s : State) (e : KeyEntry), s.takesKey .graphic e → s.line.state = .open →
    (petal s.wheel.family e.code).isSome = true → s.line.place = .struck →
    s.line.liftingAtCursor = false →
    let strikes (cursor id : Nat) (f : Cell → Cell) (plan : List Entry) :=
      plan.length ≤ s.strikeFree →
      ∃ u : State, exec .graphicCode s = .next (u.conclude s) ∧
        u.line = { s.line with
          cursor := cursor, cells := s.line.cells.map fun d => if d.id = id then f d else d } ∧
        u.strikes.entries = s.strikes.entries ++ number s.strikes.nextId (markGroup plan) ∧
        s.sameMechanism u ∧ s.sameSettings u ∧ u.keys = s.keys.tail
    let fillable (g : Cell) := g.kind = .gap ∧ g.state = .struck ∧ s.fits e.code g.e = true
    (∀ g, s.line.cells[s.line.cursor]? = some g → fillable g →
      let fill (d : Cell) : Cell := { d with
        kind := .glyph, code := some e.code, bold := s.text.bold, underline := s.text.underline,
        prior := some (.gap d.wheelId d.energy d.ribbon d.bold d.underline) }
      strikes (s.line.cursor + 1) g.id (fun d => { fill d with
          state := .queued, wheelId := some s.wheel.id, energy := some (s.energyOf e.code) })
        (s.releasePlan (fill g))) ∧
    (∀ c i, s.line.cursor = i + 1 → s.line.cells[i]? = some c →
      (∀ g, s.line.cells[s.line.cursor]? = some g → ¬ fillable g) →
      c.kind = .glyph → c.state = .struck → c.overCode = none → s.wheel.present = true →
      c.wheelId = some s.wheel.id → s.fits e.code c.e = true →
      strikes s.line.cursor c.id (fun d => { d with
          state := .queued, overCode := some e.code, prior := some .struck })
        (s.overPlan c e.code))) ∧
  (∀ (s : State) (e : KeyEntry), s.takesKey .graphic e → s.line.state = .open →
    (petal s.wheel.family e.code).isSome = true → s.wraps = true →
    s.line.cursor = s.line.cells.length → 0 < s.line.carryFrom →
    let i := s.line.carryFrom
    let x := s.line.endPos
    let w := s.glyphE e.code
    s.settings.right < x + w →
    ((s.line.cells.drop i).map (·.e)).sum + w ≤ s.settings.right - s.settings.left →
    (s.effMode = .hold → s.anyHeldWord = false) →
    (s.settings.mode = .line → s.line.format ≠ .justify) →
    (∀ r, s.line.run = some r → r.b ≤ s.line.cells.length) →
    ∃ u : State, exec .graphicCode s = .next (u.conclude s) ∧
      u.line = { s.line with
        cells := s.line.cells.take i, cursor := i, wrapped := true, run := some ⟨i, .wrap⟩ } ∧
      u.text.carry = s.line.cells.drop i ++ [{ s.glyphCell e.code x with id := 0 }] ∧
      u.strikes = s.strikes ∧ s.sameMechanism u ∧ s.sameSettings u ∧ u.keys = s.keys.tail) ∧
  (∀ s : State, 1 ≤ s.strikeFree →
    (∀ c ∈ s.text.carry, c.kind = .glyph → (s.petalOf (c.code.getD 0)).isSome = true) →
    s.settings.left + (s.text.carry.map s.freshE).sum ≤ 1560 →
    let t := s.wrapEnding
    let look (c : Cell) := (c.kind, c.code, c.bold, c.underline, c.voff)
    t.line.Chained ∧ t.line.start = s.settings.left ∧ t.line.state = .open ∧ t.line.v = 0 ∧
      t.line.run = none ∧ t.line.cursor = t.line.cells.length ∧ t.text.carry = [] ∧
      t.line.cells.map look = s.text.carry.map look ∧
      t.line.cells.map (·.e) = s.text.carry.map s.freshE ∧
      (∀ c ∈ t.line.cells, c.state = .pending) ∧
      ∃ f : Entry, t.strikes.entries =
          (s.strikes.entries.map fun d => { d with cell := none }) ++ [f] ∧ f.kind = .ret ∧
        f.x = some (target s.settings.left s.retained.printOffset) ∧
        f.feed = some (s.settings.spacing.steps - s.line.v))

/-- O24. SPACE and TAB append one PENDING cell at the end, a TAB reaching to the first stop that R52 finds
and never underlined; in WORD typing they are terminators that release every cell up to and including
theirs, and in DIRECT typing they are released at once. DECIMAL_TAB at the end of a NORMAL or JUSTIFY line
makes a TAB cell reaching to the stop and opens an aligned run on it; in WORD typing the cells before it
are released (R26, R30, R31, R38, R52, R60). -/
def Obligations.BlankKeysAppendCell : Prop :=
  (∀ (s : State) (e : KeyEntry) (c : Instr) (k : CellKind) (w : Nat),
     s.line.state ≠ .returnWait →
     let v := s.acting
     let n := v.line.cells.length
     let x := v.line.endPos
     (s.takesKey .space e ∧ c = .space ∧ k = .space ∧ w = v.spaceE ∨
       s.takesKey .tab e ∧ c = .tab ∧ k = .tab ∧ v.findStop x = some (x + w)) →
     let cell : Cell := {
       id := v.text.nextCell, kind := k, code := none, overCode := none, x := x, e := w,
       voff := v.line.v, bold := v.text.bold,
       underline := v.text.underline && decide (k = .space), wheelId := none, energy := none,
       ribbon := none, glyphs := 0, state := .pending, prior := none, wordId := none }
     v.line.Chained → v.line.cursor = n → n < 160 → v.text.aligned = none → x + w ≤ v.limit →
     (v.wraps = true → x + w ≤ v.settings.right) → 9 ≤ v.strikeFree →
     (∀ r, v.line.run = some r → r.b ≤ n) →
     ∃ u : State, exec c s = .next (u.conclude s) ∧
       u.line = { v.line with
         cells := v.line.cells ++ [cell], cursor := n + 1,
         run := if v.releasesAtOnce = true ∨ v.settings.mode = .word ∧ v.line.format.isPlaced = false
           then some (extendRun v.line.run (n + 1) .none) else v.line.run } ∧
       u.strikes = v.strikes ∧ v.sameMechanism u ∧ v.sameSettings u ∧ u.keys = s.keys.tail ∧
       u.notices = v.notices) ∧
  (∀ (s : State) (e : KeyEntry) (stop : Nat), s.takesKey .decimalTab e →
     s.line.state ≠ .returnWait →
     let v := s.acting
     let n := v.line.cells.length
     v.line.Chained → v.line.cursor = n → n < 160 → v.text.aligned = none →
     v.line.format.isPlaced = false → v.findStop v.line.endPos = some stop → stop ≤ v.limit →
     (∀ r, v.line.run = some r → r.b ≤ n) →
     ∃ u : State, exec .decimalTab s = .next (u.conclude s) ∧
       u.text.aligned = some ⟨v.text.nextCell, stop⟩ ∧ u.line.endPos = stop ∧
       u.line.cells.take n = v.line.cells ∧ u.line.cells.length = n + 1 ∧
       (u.line.cells[n]?.map fun d => (d.kind, d.state, d.underline, d.x)) =
         some (.tab, .pending, false, v.line.endPos) ∧
       u.line.run = (if v.settings.mode = .word then some (extendRun v.line.run n .none)
         else v.line.run) ∧
       u.strikes = v.strikes ∧ v.sameMechanism u ∧ v.sameSettings u ∧ u.keys = s.keys.tail)

/-- O25. A key that is refused leaves the line, the Strike Queue and the settings as they were and asks
for CLICK: a graphic code the wheel lacks, TAB with no stop, a code that stands for no key, a cursor key
on a RETURNED line; a printing, layout or line-moving key in RETURN_WAIT raises KEY_LOST with cause
REFUSED besides (R22, R25, R26). -/
def Obligations.RefusedKeysClick : Prop :=
  ∀ (s : State) (e : KeyEntry),
    let clicks (c : Instr) := exec c s = .next ((s.takeHead.requestTone .click false).conclude s)
    (s.takesKey .unknown e → clicks .unknownKeyCode) ∧
    (s.takesKey .graphic e → s.line.state = .open → s.line.cursor = s.line.cells.length →
      petal s.wheel.family e.code = none → clicks .graphicCode) ∧
    (s.takesKey .tab e → s.line.state = .open → s.line.cursor = s.line.cells.length →
      s.findStop s.line.endPos = none → clicks .tab) ∧
    (s.line.state = .returned → (s.takesKey .backspace e → clicks .backspace) ∧
      (s.takesKey .forward e → clicks .forward) ∧ (s.takesKey .relocate e → clicks .relocate)) ∧
    (∀ (k : KeyKind) (c : Instr), s.takesKey k e → s.line.state = .returnWait →
      (k, c) ∈ [(KeyKind.graphic, Instr.graphicCode), (.space, .space), (.tab, .tab),
        (.decimalTab, .decimalTab), (.returnKey, .returnKey), (.index, .index),
        (.reverseIndex, .reverseIndex), (.halfUp, .halfUp), (.halfDown, .halfDown),
        (.center, .center), (.flushRight, .flushRight), (.marginRelease, .marginRelease),
        (.setLeft, .setLeft), (.setRight, .setRight), (.tabSet, .tabSet),
        (.tabClear, .tabClear)] →
      exec c s = .next (((s.takeHead.requestTone .click false).raise .keyLost
        [2, e.code, byteOf e.source.number]).conclude s))

/-- O26. RETURN on an OPEN line, or on the new line after a RETURNED one, closes an aligned run, puts the
line in RETURN_WAIT and starts or extends a run with b the number of its cells and ending RETURN; a CENTER
or FLUSH_RIGHT line is placed as a whole first, a NORMAL or JUSTIFY line keeps its cells (log entry 19:
only a line with every cell PENDING is placed). The RETURN entry of a run feeds the spacing less v to the
left margin in force; the line becomes RETURNED with the offset and the feed it was ended with, and v
becomes 0 (R15, R16, R32, R33, R142). -/
def Obligations.ReturnEndsLineAndFeeds : Prop :=
  (∀ (s : State) (e : KeyEntry), s.takesKey .returnKey e → s.line.state ≠ .returnWait →
     let v := s.acting
     let p := v.closeAligned.placeWhole.line
     ∃ u : State, exec .returnKey s = .next (u.conclude s) ∧
       u.line = { p with
         state := .returnWait, run := some (extendRun p.run p.cells.length .ret) } ∧
       (v.line.format.isPlaced = false → p = v.line) ∧
       u.text.aligned = none ∧ u.spell.endClosed = true ∧
       u.strikes = v.strikes ∧ v.sameMechanism u ∧ v.sameSettings u ∧ u.keys = s.keys.tail) ∧
  (∀ s : State, 1 ≤ s.strikeFree →
     let t := s.returnEnding
     let feed := s.settings.spacing.steps - s.line.v
     (∃ e : Entry, t.strikes.entries = s.strikes.entries ++ [e] ∧ e.kind = .ret ∧
       e.x = some (target s.settings.left s.retained.printOffset) ∧ e.feed = some feed ∧
       e.first = true ∧ e.last = true ∧ e.cell = none) ∧
     t.line = { s.line with
       state := .returned, baselineOff := some s.line.v, returnFeed := some feed,
       returnId := some s.strikes.nextId, v := 0, run := none } ∧
     s.sameMechanism t ∧ s.sameSettings t)

/-- O27. INDEX and REVERSE_INDEX on a settled OPEN line, or on a RETURNED one, close it and open the next
with v kept (0 after a RETURNED line), and append a FEED of plus or minus the spacing's steps (R46). That
a settled CENTER or FLUSH_RIGHT line is closed as it stands, and that a settled line is ended though a
record of it holds, are the model's choices (log entries 54 and 58). -/
def Obligations.IndexFeedsOneSpacing : Prop :=
  ∀ (s : State) (e : KeyEntry) (down : Bool),
    s.takesKey (if down then .index else .reverseIndex) e → 1 ≤ s.strikeFree →
    (s.line.state = .open ∧ s.line.settled = true ∧ s.line.run = none ∨
      s.line.state = .returned) →
    ∃ u : State, exec (if down then .index else .reverseIndex) s = .next (u.conclude s) ∧
      (let returned := s.line.state = .returned
       let x := if returned then s.settings.left else s.line.endPos
       let v := if returned then 0 else s.line.v
       u.line = .opened x v s.settings.format ∧
       ∃ f : Entry, u.strikes.entries =
          (s.strikes.entries.map fun d => { d with cell := none }) ++ [f] ∧
        f.kind = .feed ∧ f.x = none ∧ f.offsetAfter = some v ∧
        f.feed = some (if down then s.settings.spacing.steps else -s.settings.spacing.steps)) ∧
      s.sameMechanism u ∧ s.sameSettings u ∧ u.keys = s.keys.tail

/-- O28. HALF_UP and HALF_DOWN change v by −4 and +4 within −8 to +8 and append a FEED of as much, and are
refused with CLICK where v would leave that range; cells already made keep their offsets (R47). -/
def Obligations.HalfLineKeysMoveV : Prop :=
  ∀ (s : State) (e : KeyEntry) (down : Bool),
    s.takesKey (if down then .halfDown else .halfUp) e → s.line.state ≠ .returnWait →
    let v := s.acting
    let d : Int := if down then 4 else -4
    let c : Instr := if down then .halfDown else .halfUp
    if -8 ≤ v.line.v + d ∧ v.line.v + d ≤ 8 then
      1 ≤ v.strikeFree →
      ∃ u : State, exec c s = .next (u.conclude s) ∧ u.line = { v.line with v := v.line.v + d } ∧
        (∃ f : Entry, u.strikes.entries = v.strikes.entries ++ [f] ∧ f.kind = .feed ∧
          f.feed = some d ∧ f.offsetAfter = some (v.line.v + d)) ∧
        v.sameMechanism u ∧ v.sameSettings u ∧ u.keys = s.keys.tail
    else exec c s = .next ((v.requestTone .click false).conclude s)

/-- O29. BACKSPACE and FORWARD move the cursor one cell and, in DIRECT typing over a cell that is not
PENDING, append a MOVE to the place of the new cursor; RELOCATE puts the cursor at the end with a MOVE
there. No cell changes (R40, R41). -/
def Obligations.CursorKeysMove : Prop :=
  ∀ (s : State) (e : KeyEntry), s.line.state ≠ .returned → 1 ≤ s.strikeFree →
    let n := s.line.cells.length
    let released (i : Nat) := ∃ d, s.line.cells[i]? = some d ∧ d.state ≠ .pending
    let moves (c : Instr) (new : Nat) (follows : Prop) :=
      ∃ u : State, exec c s = .next (u.conclude s) ∧ u.line = { s.line with cursor := new } ∧
        (¬ follows → u.strikes = s.strikes) ∧
        (follows → ∃ f : Entry, u.strikes.entries = s.strikes.entries ++ [f] ∧ f.kind = .move ∧
          f.x = some (target (s.line.cursorX new) s.retained.printOffset)) ∧
        s.sameMechanism u ∧ s.sameSettings u ∧ u.keys = s.keys.tail
    (s.takesKey .backspace e → 1 ≤ s.line.cursor →
      moves .backspace (s.line.cursor - 1)
        (s.settings.mode = .direct ∧ released (s.line.cursor - 1))) ∧
    (s.takesKey .backspace e → s.line.cursor = 0 → moves .backspace 0 False) ∧
    (s.takesKey .forward e → s.line.cursor < n →
      moves .forward (s.line.cursor + 1) (s.settings.mode = .direct ∧ released s.line.cursor)) ∧
    (s.takesKey .forward e → n ≤ s.line.cursor → moves .forward s.line.cursor False) ∧
    (s.takesKey .relocate e → moves .relocate n True)

/-- O30. CORRECT on the cell before the cursor. With ink on it, its wheel mounted, a compatible tape and
room, the LIFT group joins the queue, the cell is LIFTING and the cursor stands before it; where a check
fails LIFT_REFUSED is raised and the line stays. A QUEUED cell's group not begun is withdrawn: the cell
takes its prior form, or leaves the record as its last, or becomes a GAP. A cell with nothing on paper
leaves as the last, else the cursor passes it. A PENDING cell leaves and those after it move up; where
their end would still pass the margin lock the key clicks and the record stays (where none moves, the
model's reading is that nothing is refused: log entry 49). On a RETURNED line the RETURN entry is
withdrawn, or a reverse FEED appended, and the line is reopened first. At c = 0 it clicks (R12, R39, R55,
R72, R124, R127 to R130, R132, R138, R139). -/
def Obligations.CorrectLiftsOrTakesBack : Prop :=
  (∀ (s : State) (e : KeyEntry) (i : Nat) (c : Cell), s.takesKey .correct e →
     s.line.state ≠ .returned → s.line.cursor = i + 1 → s.line.cells[i]? = some c →
     let n := s.line.cells.length
     let become (f : Cell → Cell) := s.line.cells.map fun d => if d.id = c.id then f d else d
     let gapped (d : Cell) : Cell := { d with
       kind := .gap, code := none, overCode := none, underline := false, glyphs := 0,
       state := .struck, prior := none }
     let ends (u : State) := exec .correct s = .next (u.conclude s) ∧ s.sameSettings u ∧
       u.keys = s.keys.tail ∧ u.carrier = s.carrier ∧ u.wheel = s.wheel ∧ u.platen = s.platen ∧
       u.hammer.heat = s.hammer.heat
     (c.state = .struck → c.inked = true →
       (∀ tape, s.wheel.present = true → c.wheelId = some s.wheel.id → s.ribbon.tape = some tape →
         compatible tape c.ribbon = true → (s.liftPlan c).length ≤ s.strikeFree →
         ∃ u, ends u ∧ s.sameMechanism u ∧ u.line.cursor = i ∧
           u.line.cells = become (fun d => { d with state := .lifting }) ∧
           u.strikes.entries = s.strikes.entries ++
             number s.strikes.nextId (markGroup (s.liftPlan c))) ∧
       (∀ cause, s.liftRefusal c = some cause →
         ∃ u, ends u ∧ s.sameMechanism u ∧ u.line = s.line ∧ u.strikes = s.strikes ∧
           u.notices.rows.liftRefused =
             s.notices.rows.liftRefused.occur [byteOf cause.number, c.liftCode])) ∧
     (c.state = .queued → s.cellBegun c.id = false →
       ∃ u, ends u ∧ u.line.cursor = i ∧ u.strikes.entries =
           s.strikes.entries.filter (fun d => !decide (d.cell = some c.id)) ∧
         (c.prior = none → n = i + 1 → u.line.cells = s.line.cells.take i) ∧
         (c.prior = none → n ≠ i + 1 → u.line.cells = become gapped) ∧
         (c.prior = some .struck → u.line.cells = become fun d => { d with
           state := .struck, overCode := none, prior := none }) ∧
         (∀ w g r b un, c.prior = some (.gap w g r b un) → u.line.cells = become fun d =>
           { gapped d with wheelId := w, energy := g, ribbon := r, bold := b, underline := un })) ∧
     (c.state = .struck → c.inked = false →
       ∃ u, ends u ∧ s.sameMechanism u ∧ u.strikes = s.strikes ∧ u.line.cursor = i ∧
         (n = i + 1 → u.line.cells = s.line.cells.take i) ∧
         (n ≠ i + 1 → u.line = { s.line with cursor := i })) ∧
     (c.state = .pending → s.line.Chained → s.text.aligned = none →
       (∀ d ∈ s.line.cells.drop (i + 1), d.state = .pending ∧ d.kind ≠ .tab) →
       ((n = i + 1 ∨ c.e = 0 ∨ s.line.endPos - c.e ≤ s.limit) →
         ∃ u, ends u ∧ s.sameMechanism u ∧ u.strikes = s.strikes ∧ u.line = { s.line with
           cursor := i, run := s.line.run.map fun r => { r with b := if i < r.b then r.b - 1 else r.b },
           cells := s.line.cells.take i ++ chainFrom c.x (s.line.cells.drop (i + 1)) }) ∧
       (n ≠ i + 1 → 0 < c.e → s.limit < s.line.endPos - c.e →
         exec .correct s = .next ((s.takeHead.requestTone .click false).conclude s)))) ∧
  (∀ (s : State) (e : KeyEntry), s.takesKey .correct e → s.line.state ≠ .returned →
     s.line.cursor = 0 →
     exec .correct s = .next ((s.takeHead.requestTone .click false).conclude s)) ∧
  (∀ (s : State) (e : KeyEntry) (i : Nat) (c : Cell), s.takesKey .correct e →
     s.line.state = .returned → s.line.cells.length = i + 1 → s.line.cells[i]? = some c →
     c.state = .struck → c.inked = true → s.liftRefusal c = none →
     s.strikes.entries.length ≤ 32 →
     let plan := s.liftPlan c
     let lifts (g : List Entry) := ∃ u : State, exec .correct s = .next (u.conclude s) ∧
       u.strikes.entries = g ∧ s.sameSettings u ∧ u.keys = s.keys.tail ∧
       u.line = { s.line with
         state := .open, format := .normal, v := s.line.baselineOff.getD 0, baselineOff := none,
         returnFeed := none, returnId := none, cursor := i,
         cells := s.line.cells.map fun d => if d.id = c.id then { d with state := .lifting } else d }
     (s.returnWithdrawable = true → plan.length ≤ s.strikeFree + 1 →
       lifts ((s.strikes.entries.filter fun d => !decide (some d.id = s.line.returnId)) ++
         number s.strikes.nextId (markGroup plan))) ∧
     (s.returnWithdrawable = false → plan.length + 1 ≤ s.strikeFree →
       lifts (s.strikes.entries ++ number s.strikes.nextId (markGroup
           [feedEntry (-(s.line.returnFeed.getD 0)) (s.line.baselineOff.getD 0)]) ++
         number (s.strikes.nextId + 1) (markGroup plan))))

/-- O31. WORD_ERASE and LINE_ERASE on PENDING cells delete every cell from the stop index of R136 up to
the cursor in the event that takes the key and no erase is left; so does a held erase that is taken up
again. That of WORD_ERASE is c - 1 for a TAB there; else it is found across SPACE cells and then across
cells that are neither SPACE nor TAB. That of LINE_ERASE is 0. The line stands within the margin lock,
so that R55 refuses no re-placement (log entry 49) (R136, R137, R39, R55). -/
def Obligations.ErasesDeletePendingCells : Prop :=
  ∀ (s : State) (e : KeyEntry), s.line.state ≠ .returned → s.line.cursor ≤ s.line.cells.length →
    s.line.cells.length ≤ 160 → 1 ≤ s.line.cursor → (∀ d ∈ s.line.cells, d.state = .pending) →
    s.text.aligned = none → s.line.Chained → s.line.endPos ≤ s.limit →
    let erased (u : State) (i : Nat) := u.line.cursor = i ∧ u.text.erase = none ∧
      u.line.cells.map (·.id) =
        (s.line.cells.take i ++ s.line.cells.drop s.line.cursor).map (·.id) ∧
      u.strikes = s.strikes
    let kind (j : Nat) : Option CellKind := s.line.cells[j]?.map (·.kind)
    let stops (i : Nat) :=
      if kind (s.line.cursor - 1) = some .tab then i = s.line.cursor - 1
      else ∃ m, i ≤ m ∧ m ≤ s.line.cursor ∧
        (∀ j, m ≤ j → j < s.line.cursor → kind j = some .space) ∧
        (0 < m → kind (m - 1) ≠ some .space) ∧
        (∀ j, i ≤ j → j < m → kind j ≠ some .space ∧ kind j ≠ some .tab) ∧
        (0 < i → kind (i - 1) = some .space ∨ kind (i - 1) = some .tab)
    (s.takesKey .wordErase e → ∃ (u : State) (i : Nat), exec .wordErase s = .next (u.conclude s) ∧
      stops i ∧ erased u i ∧ u.keys = s.keys.tail) ∧
    (s.takesKey .lineErase e → ∃ u : State, exec .lineErase s = .next (u.conclude s) ∧
      erased u 0 ∧ u.keys = s.keys.tail) ∧
    (∀ k i, s.live = true → s.text.erase = some ⟨k, i⟩ → i ≤ s.line.cursor →
      ∃ u v : State, exec .eraseStep s = .next (u.conclude s) ∧ u.eraseContinue = v ∧ erased v i)

/-- O32. The target of the word keys is that of R155's table: none in OFF; in HOLD the first record that
is UNKNOWN, not accepted and has a cell kept back; else, and in ALERT, the last record that is UNKNOWN and
not accepted. ACCEPT_WORD sets the accepted flag of its target; ADD_WORD adds the target's letters to the
User Word List unless they stand there or it is full, when it sounds CLICK and raises a SPELL notice with
reason LIST_FULL (a word that stands in a full list: log entry 53), and accepts the target and every
record that is UNKNOWN and has equal letters; with no target each clicks (R155, R156). -/
def Obligations.WordKeysPassWords : Prop :=
  (∀ s : State,
    let free (q : WordRecord) := q.state = .unknown ∧ q.accepted = false
    let last := match s.wordTarget with
      | some r => ∃ before after, s.spell.table = before ++ r :: after ∧ free r ∧
        ∀ q ∈ after, ¬ free q
      | none => ∀ q ∈ s.spell.table, ¬ free q
    let kept (q : WordRecord) := ∃ c ∈ s.line.cells, c.state = .pending ∧ c.wordId = some q.id
    (s.settings.spell = .off → s.wordTarget = none) ∧
    (s.settings.spell = .alert ∨ s.settings.spell = .hold ∧ s.settings.mode = .direct → last) ∧
    (s.settings.spell = .hold → s.settings.mode ≠ .direct → (s.spell.table.map (·.id)).Nodup →
      ((∃ q ∈ s.spell.table, free q ∧ kept q) → ∃ r before after, s.wordTarget = some r ∧
        s.spell.table = before ++ r :: after ∧ free r ∧ kept r ∧
        ∀ q ∈ before, ¬ (free q ∧ kept q)) ∧
      ((∀ q ∈ s.spell.table, ¬ (free q ∧ kept q)) → last))) ∧
  ∀ (s : State) (e : KeyEntry),
    (s.takesKey .acceptWord e ∨ s.takesKey .addWord e) →
    (∀ c, (s.takesKey .acceptWord e ∧ c = Instr.acceptWord ∨
        s.takesKey .addWord e ∧ c = Instr.addWord) → s.wordTarget = none →
      exec c s = .next ((s.takeHead.requestTone .click false).conclude s)) ∧
    (∀ r, s.wordTarget = some r →
      (s.takesKey .acceptWord e → ∃ u : State, exec .acceptWord s = .next (u.conclude s) ∧
        u.spell = { s.spell with table := s.spell.table.map fun q =>
          if q.id = r.id then { q with accepted := true } else q } ∧
        u.line = s.line ∧ u.strikes = s.strikes ∧ s.sameMechanism u ∧ s.sameSettings u ∧
        u.keys = s.keys.tail) ∧
      (s.takesKey .addWord e → ∃ t u : State, exec .addWord s = .next t ∧ t = u.conclude s ∧
        t.retained.settings = s.retained.settings ∧ t.retained.words =
          (if r.letters.getD [] ∈ s.retained.words ∨ 48 ≤ s.retained.words.length
            then s.retained.words else s.retained.words ++ [r.letters.getD []]) ∧
        (if 48 ≤ s.retained.words.length ∧ ¬ r.letters.getD [] ∈ s.retained.words
          then u.tone = s.tone.request s.settings.volume .click false ∧
            u.notices.rows.spell =
              s.notices.rows.spell.occur (0x02 :: byteOf r.id :: s.typedCodes r)
          else u.tone = s.tone ∧ u.notices = s.notices) ∧
        ((s.spell.table.map (·.id)).Nodup → u.spell.table = s.spell.table.map fun q =>
          if q.state = .unknown ∧ (q.id = r.id ∨ q.letters = r.letters)
            then { q with accepted := true } else q) ∧
        (∀ q ∈ u.spell.table, q.id = r.id → q.state = .unknown → q.accepted = true) ∧
        u.line = s.line ∧ u.strikes = s.strikes ∧ t.settings = s.settings ∧
        t.keys = s.keys.tail))

/-! ## Release runs and the hold -/

/-- O33. A release run whose next cell fits releases it: its group joins the tail of the Strike Queue
and the cell becomes QUEUED with its wheel id and energy, or STRUCK where it has no entries; with
nothing left below b and ending NONE the run ends. A run whose first PENDING cell below b is kept back
releases nothing when it is examined, and no longer counts as waiting. With no held word and the last
token closed no cell is kept back, and a justification that drops the SPACE after the last token leaves
it closed (the model's choice, log entry 20), so that the run of a wrap that passed R34's checks is not
blocked (R8, R14, R15, R35, R142, R154). That a cell released with no wheel present records the id in force
is the model's reading (log entry 17). -/
def Obligations.RunReleasesCellsNotHeld : Prop :=
  ((∀ (s : State) (c : Cell), (s.releasePlan c).length ≤ s.strikeFree →
     let t := s.releaseCell c
     t.strikes.entries = s.strikes.entries ++
       number s.strikes.nextId (markGroup (s.releasePlan c)) ∧
     t.line = { s.line with cells := s.line.cells.map fun d => if d.id = c.id then
       (if s.releasePlan c = [] then { d with state := .struck, glyphs := 0 }
         else { d with state := .queued, wheelId := some s.wheel.id,
                       energy := some (s.recordedEnergy d) }) else d } ∧
     s.sameMechanism t ∧ s.sameSettings t) ∧
   (∀ (s : State) (i : Nat) (c : Cell), s.live = true → s.line.run = some ⟨i + 1, .none⟩ →
     s.line.firstPending = i → s.line.cells[i]? = some c → s.keptBack i = false →
     (s.releasePlan c).length ≤ s.strikeFree →
     ∃ u : State, exec .releaseRunStep s = .next (u.sequence.finish s) ∧ u.line.run = none ∧
       u.strikes = (s.releaseCell c).strikes ∧
       u.line.cells = (s.releaseCell c).line.cells ∧ s.sameMechanism u ∧ s.sameSettings u ∧
       u.keys = s.keys)) ∧
  (∀ (s : State) (r : Run), s.line.run = some r → s.line.firstPending < r.b →
     s.line.firstPending < s.line.cells.length → s.keptBack s.line.firstPending = true →
     let t : State := { s with text := { s.text with runWaits := false } }
     s.runStatus = .blocked ∧ s.runExamine = t ∧
       (s.live = true → exec .releaseRunStep s = .next (t.sequence.finish s))) ∧
  (∀ (s : State) (i : Nat), s.anyHeldWord = false → s.spell.endClosed = true →
     s.keptBack i = false) ∧
  (∀ (s : State) (c : Cell), s.settings.mode = .line → s.line.format = .justify →
     s.line.wrapped = true → (∀ d ∈ s.line.cells, d.state = .pending) →
     s.line.cells.getLast? = some c → c.kind = .space →
     s.justify.spell.endClosed = true ∧ s.justify.anyHeldWord = s.anyHeldWord)

/-- O34. Withdrawing a group takes out exactly the entries that name its cell, gives their room back, and
leaves the paper, the platen and the heat account alone. An append is of one whole group, refused whole
where the free count is less than its size: the first entry carries the first mark, the last the last
mark, and no entry between carries either (R71, R72). -/
def Obligations.GroupsGoAndComeWhole : Prop :=
  (∀ (s : State) (cell : Nat),
     let t := s.withdrawCell cell
     t.groupOf cell = [] ∧
       (∀ d, d ∈ t.strikes.entries ↔ d ∈ s.strikes.entries ∧ d.cell ≠ some cell) ∧
       t.strikes.entries.length + (s.groupOf cell).length = s.strikes.entries.length ∧
       t.line = s.line ∧ t.carrier = s.carrier ∧ t.wheel = s.wheel ∧ t.platen = s.platen ∧
       t.hammer.heat = s.hammer.heat ∧ t.hammer.pulse = s.hammer.pulse ∧ s.sameSettings t) ∧
  (∀ (s : State) (es : List Entry),
     let t := s.appendGroup es
     if es.length ≤ s.strikeFree ∧ s.strikes.entries.length ≤ 32 then
       ∃ g : List Entry, t.strikes.entries = s.strikes.entries ++ g ∧ g.length = es.length ∧
         (∀ i d, g[i]? = some d → (d.first = true ↔ i = 0) ∧
           (d.last = true ↔ i + 1 = es.length) ∧ d.id = s.strikes.nextId + i) ∧
         g.map (fun d => (d.kind, d.x, d.petal, d.energy, d.cell)) =
           es.map (fun d => (d.kind, d.x, d.petal, d.energy, d.cell))
     else es ≠ [] → s.strikes.entries.length ≤ 32 → t.strikes = s.strikes)

/-! ## The stages of an entry -/

/-- O35. A carrier move that ends with a mark count within 1 of |floor(x1 / 6) − floor(x0 / 6)| sets the
carrier position to its target and clears the count; otherwise CARRIER_STALL is taken: the code is held,
the state is FAULT, the position is not known and every queued entry is kept. The third step of a homing
is checked in the same way: a good one ends the homing, which goes on to the wheel in a recovery and ends
the carrier's part of a start-up, IDLE and READY where it was the last; a bad one is CARRIER_HOME (R89,
R90, R94, R95, R188). That READY finds the line opened again, at the left margin then in force, is the
model's reading of R18 and R20 (log entry 42). -/
def Obligations.CarrierMoveIsChecked : Prop :=
  ∀ (s : State) (x marks : Nat), s.live = true →
    let count := min 1600 (s.carrier.marks + marks)
    let expected := (x / 6 - s.carrier.pos / 6) + (s.carrier.pos / 6 - x / 6)
    let good := expected ≤ count + 1 ∧ count ≤ expected + 1
    let ends (u : State) := exec (.carrierMoveComplete marks) s = .next (u.conclude s) ∧
      u.keys = s.keys ∧ s.sameSettings u ∧ u.inputs = s.inputs
    let arrives (u : State) := ends u ∧ u.carrier = ⟨x, s.carrier.known, 0, .none⟩
    let fails (u : State) (code : FaultCode) (number : Byte) := ends u ∧
      u.carrier = { s.carrier with known := false, marks := 0, move := .none } ∧
      u.seq.mech = .fault ∧ u.seq.fault = some code ∧ u.seq.stage = none ∧
      u.strikes = s.strikes ∧ u.line = s.line ∧
      u.notices.rows.fault = s.notices.rows.fault.occur [number] ∧
      u.tone = s.tone.request s.settings.volume .alarm true
    (s.carrier.move = .moving x →
      (good → ∃ u, arrives u) ∧ (¬ good → ∃ u, fails u .carrierStall 1)) ∧
    (s.carrier.move = .homing (.toMargin x) →
      (¬ good → ∃ u, fails u .carrierHome 2) ∧
      (good → s.seq.recovering = true → ∃ u, arrives u ∧ u.seq = s.seq ∧ s.sameWork u ∧
        u.wheel.ident = .searching false ∧ u.wheel.failedReads = 0) ∧
      (good → s.seq.recovering = false → s.seq.startup = none →
        ∃ u, arrives u ∧ u.seq = s.seq ∧ s.sameWork u) ∧
      (∀ p, good → s.seq.recovering = false → s.seq.startup = some p → s.seq.mech = .starting →
        ∃ u, arrives u ∧ u.strikes = s.strikes ∧
          if p.wheelDone = true ∧ p.sensingDone = true ∧ s.spell.headersRead = true then
            u.seq = { s.seq with mech := .idle, startup := none } ∧
              u.line = .opened s.settings.left 0 s.settings.format ∧
              u.notices.rows.ready = s.notices.rows.ready.occur [byteOf p.kind.number]
          else u.seq = { s.seq with startup := some { p with carrierDone := true } } ∧
            u.line = s.line))

/-- O36. A homing moves 36 steps off the switch, their marks not checked, then searches; the switch
closing sets position 0, known, and begins the move to the physical target of the left margin, whose
end O35 states; 1600 steps without it take CARRIER_HOME (R94). That the position follows the 36 steps
with the count cleared, that the target is fixed as the switch closes, and that a third step of no distance
ends at a move's end of its own, are the model's choices (log entry 23). -/
def Obligations.HomingFindsPositionZero : Prop :=
  ∀ s : State, s.live = true →
    (s.carrier.move = .homing .offSwitch →
      exec .homingOffSwitchEnd s = .next { s with carrier := { s.carrier with
        pos := min 1559 (s.carrier.pos + 36), marks := 0, move := .homing .search } }) ∧
    (s.carrier.move = .homing .search →
      exec .carrierHomeFound s = .next { s with carrier := ⟨0, true, 0,
        .homing (.toMargin (target s.settings.left s.retained.printOffset))⟩ }) ∧
    (s.carrier.move = .homing .search →
      ∃ u : State, exec .carrierHomeSearchLimit s = .next (u.conclude s) ∧
        u.carrier.known = false ∧ u.carrier.move = .none ∧ u.seq.mech = .fault ∧
        u.seq.fault = some .carrierHome ∧ u.strikes = s.strikes ∧ u.line = s.line ∧
        u.notices.rows.fault = s.notices.rows.fault.occur [2] ∧ s.sameSettings u)

/-- O37. At the end of a rotation the wheel angle is the target. At the end of a platen motion the counter
is its target; past the counter's range, for which the spec gives no value, it is some value of that range
(a free value, log entry 30). The baseline and the typing offset follow by the motion's kind: a striking
entry goes to the baseline plus its offset and changes neither, a MOVE to where the platen stands; a FEED
leaves the offset after and the baseline that goes with it; a RETURN makes its target the new baseline
(R76, R77, R96, R106). At a boundary with no cause, no pause and an entry at the head, that entry begins
POSITION: the platen moves first, the carrier and wheel then, those of a RETURN with it. At the end of its
last motion a striking entry hands over a pulse of 5 + E periods, which fires at once or waits by the heat
rule, and a MOVE, FEED or RETURN leaves the queue (R75, R76, R78, R82, R115, R117). An entry that was kept
fired goes on with ADVANCE and is not fired again (R90). A LIFT for another wheel is withdrawn with its
whole group where it is the group's first entry, its cell STRUCK again, with LIFT_REFUSED; a later one is
held at the head, and the part is HALTED with NO_WHEEL (R86). A striking entry with the wheel angle not
known takes WHEEL_HOME and turns nothing (R89, R96). -/
def Obligations.RotationAndPlatenReckoning : Prop :=
  (∀ s : State, s.live = true →
     (∀ a, s.wheel.move = some a →
       ∃ u : State, exec .wheelRotationComplete s = .next (u.conclude s) ∧
         u.wheel = { s.wheel with angle := a, move := none } ∧ u.carrier = s.carrier ∧
         u.platen = s.platen ∧ u.keys = s.keys ∧ s.sameSettings u ∧ u.inputs = s.inputs) ∧
     (∀ m, s.platen.move = some m →
       ∃ u : State, exec .platenMotionComplete s = .next (u.conclude s) ∧
         u.platen.move = none ∧
         (-2147483648 ≤ m.target → m.target ≤ 2147483647 → u.platen.counter = m.target) ∧
         -2147483648 ≤ u.platen.counter ∧ u.platen.counter ≤ 2147483647 ∧
         u.seq.baseline = (s.seq.afterPlaten m.target m.update).baseline ∧
         u.seq.u = (s.seq.afterPlaten m.target m.update).u ∧
         u.keys = s.keys ∧ s.sameSettings u ∧ u.inputs = s.inputs)) ∧
  (∀ (q : Sequencer) (e : Entry),
     let x := q.platenTarget e
     let r := q.afterPlaten x e.platenUpdate
     (∀ v, e.kind.striking = true → e.voff = some v → x = q.baseline + v ∧ r = q) ∧
     (e.kind = .move → x = q.baseline + q.u ∧ r = q) ∧
     (∀ d o, e.kind = .feed → e.feed = some d → e.offsetAfter = some o →
       x = q.baseline + q.u + d ∧ r = { q with baseline := x - o, u := o }) ∧
     (∀ d, e.kind = .ret → e.feed = some d →
       x = q.baseline + q.u + d ∧ r = { q with baseline := x, u := 0 })) ∧
  (∀ (s : State) (e : Entry) (rest : List Entry), s.atBoundary = true → s.causesNow = [] →
     s.seq.pause = false → s.strikes.entries = e :: rest → s.seq.inFlight = none →
     (e.kind = .lift → e.wheelId = some s.wheel.id) →
     (e.kind.striking = true → s.wheel.known = true) → s.carrier.known = true →
     s.carrier.move = .none → s.wheel.move = none → s.platen.move = none →
     let y := s.seq.platenTarget e
     let angle := ((16 * (e.petal.getD 0 : Int) + s.retained.wheelPhase) % 1536).toNat
     let t := s.sequence
     let begun := t.seq.mech = .running ∧ t.seq.stage = some .position ∧
       t.seq.inFlight = some ⟨y, false⟩ ∧ t.strikes = s.strikes ∧ t.line = s.line
     (s.platen.counter ≠ y → e.kind ≠ .ret → begun ∧ t.carrier = s.carrier ∧
       t.platen.move = some ⟨y, e.platenUpdate⟩ ∧
       t.wheel = s.wheel) ∧
     (∀ p, s.platen.counter ≠ y → e.kind = .ret → e.x = some p → s.carrier.pos ≠ p →
       begun ∧ t.carrier.move = .moving p ∧ t.platen.move = some ⟨y, .ret⟩) ∧
     (∀ p, s.platen.counter = y → e.kind ≠ .feed → e.x = some p → s.carrier.pos ≠ p →
       begun ∧ t.carrier.move = .moving p ∧ t.platen.move = none ∧
       t.wheel.move = if e.kind.striking = true ∧ s.wheel.angle ≠ angle then some angle else none)) ∧
  (∀ (s : State) (e : Entry) (rest : List Entry) (energy : Nat), s.live = true →
     s.strikes.entries = e :: rest → s.seq.stage = some .position → s.seq.testStrike = none →
     s.seq.draining = false → s.seq.leaving = false → s.carrier.known = true →
     (e.kind.striking = true → e.energy = some energy) →
     let n := 5 + energy
     let ends (c : Instr) := ∃ u : State, exec c s = .next (u.conclude s) ∧ u.keys = s.keys ∧
       s.sameSettings u ∧
       if e.kind.striking = true then u.strikes = s.strikes ∧
         if s.hammer.heat + n ≤ 600 ∧ s.inputs.hammerHome.qualified = true
           then u.seq.stage = some .fire ∧ u.hammer = ⟨s.hammer.heat + n, true, none, some n⟩
           else u.seq.stage = some .heatWait ∧ u.line = s.line ∧
             u.hammer = { s.hammer with request := some n }
       else u.strikes.entries = rest ∧ u.seq.stage = none ∧ u.seq.inFlight = none ∧
         u.hammer = s.hammer ∧ (e.cell = none → u.line = s.line)
     (∀ x marks, s.carrier.move = .moving x → s.platen.move = none →
       (e.kind.striking = true → s.wheel.move = none) →
       let count := min 1600 (s.carrier.marks + marks)
       let expected := (x / 6 - s.carrier.pos / 6) + (s.carrier.pos / 6 - x / 6)
       expected ≤ count + 1 → count ≤ expected + 1 → ends (.carrierMoveComplete marks)) ∧
     (∀ a, s.wheel.move = some a → e.kind.striking = true → s.carrier.move = .none →
       s.platen.move = none → ends .wheelRotationComplete) ∧
     (∀ m, s.platen.move = some m → s.carrier.move = .none → e.kind = .feed ∨ e.kind = .ret →
       ends .platenMotionComplete) ∧
     (∀ m p, s.platen.move = some m → s.carrier.move = .none → e.kind ≠ .feed → e.kind ≠ .ret →
       e.x = some p → s.carrier.pos ≠ p →
       ∃ u : State, exec .platenMotionComplete s = .next (u.conclude s) ∧
         u.seq.stage = some .position ∧ u.carrier.move = .moving p ∧ u.strikes = s.strikes ∧
         u.line = s.line)) ∧
  (∀ (s : State) (e : Entry) (rest : List Entry), s.atBoundary = true → s.causesNow = [] →
     s.seq.pause = false → s.strikes.entries = e :: rest → s.seq.stage = none →
     s.seq.draining = false → s.seq.testStrike = none →
     let decided := s.decideState
     let t := s.sequence
     let stands (t : State) := t.carrier = s.carrier ∧ t.wheel = s.wheel ∧ t.platen = s.platen ∧
       t.keys = s.keys ∧ s.sameSettings t
     let quiet := s.text.erase = none ∧ s.line.run = none
     (∀ f w, s.seq.inFlight = some f → f.fired = true → e.width = some w → 1 ≤ w →
       let steps := if e.kind = .lift then 6 else match s.ribbon.kind with
         | some .fabric => 1 | some .film => max 4 w | _ => (w + 2) / 3
       stands t ∧ t.strikes = s.strikes ∧ t.line = s.line ∧ t.hammer = s.hammer ∧
         t.seq = { s.seq with mech := .running, causes := [], stage := some .advance } ∧
         t.ribbon = { s.ribbon with advance := steps }) ∧
     ((∀ f, s.seq.inFlight = some f → f.fired = false) →
       (e.kind = .lift → e.wheelId ≠ some s.wheel.id →
         (e.first = true → ∀ group last after, s.strikes.entries = group ++ last :: after →
           (∀ x ∈ group, x.last = false) → last.last = true →
           (s.strikes.entries.map (·.id)).Nodup →
           let code := match e.cell with
             | none => 0x00
             | some id => match s.line.find id with
               | some c => c.liftCode
               | none => 0x00
           stands decided ∧ decided.strikes = { s.strikes with entries := after } ∧
             decided.seq = { s.seq with
               mech := .running, causes := [], inFlight := none, liftHeld := false } ∧
             decided.line = { s.line with cells := (s.line.cells.map fun d =>
               if e.cell = some d.id then { d with state := .struck } else d) } ∧
             decided.notices.rows.liftRefused =
               s.notices.rows.liftRefused.occur [0x00, code] ∧
             (quiet → after = [] → stands t ∧ t.seq.mech = .idle ∧ t.strikes.entries = [])) ∧
         (e.first = false → stands decided ∧ decided.strikes = s.strikes ∧
           decided.line = s.line ∧
           decided.seq = { s.seq with mech := .running, causes := [], liftHeld := true } ∧
           (quiet → stands t ∧ t.strikes = s.strikes ∧ t.line = s.line ∧
             t.seq = { s.seq with mech := .halted, causes := [.noWheel], liftHeld := true } ∧
             t.notices.rows.halt = s.notices.rows.halt.occur [0x10]))) ∧
       (e.kind.striking = true → (e.kind = .lift → e.wheelId = some s.wheel.id) →
         s.wheel.known = false →
         stands t ∧ t.strikes = s.strikes ∧ t.line = s.line ∧
           t.seq = { s.seq with
             mech := .fault, fault := some .wheelHome, causes := [], recovering := false,
             testPos := none, leaving := false } ∧
           t.notices.rows.fault = s.notices.rows.fault.occur [0x03] ∧
           t.tone = s.tone.request s.settings.volume .alarm true)))

/-- O38. A pulse of n periods begins only when H + n ≤ 600 and the hammer is qualified at home; in that
event the account is charged by n, the request is gone, the entry is fired, the ribbon or tape is lifted,
and the fire is reported: the entry's cell goes from QUEUED to STRIKING and records the ribbon in place at
the first entry of a PRINT group or of underscores alone; at every other strike of ink a cell that records
FILM takes the kind in place, and any other keeps its own (R9, R123; log entry 39). A request that does
not meet both waits, and nothing changes (R117, R115, R79, R73). -/
def Obligations.FireNeedsRoomInHeatAccount : Prop :=
  ∀ (s : State) (n : Nat) (e : Entry), s.live = true → s.hammer.request = some n →
    s.entry = some e → s.seq.stage = some .heatWait →
    ∃ t, exec .fire s = .next t ∧ s.sameSettings t ∧ t.keys = s.keys ∧ t.strikes = s.strikes ∧
      t.carrier = s.carrier ∧ t.wheel = s.wheel ∧ t.platen = s.platen ∧
      if s.hammer.heat + n ≤ 600 ∧ s.inputs.hammerHome.qualified = true then
        t.hammer = ⟨s.hammer.heat + n, true, none, some n⟩ ∧ t.seq.stage = some .fire ∧
          t.seq.inFlight = s.seq.inFlight.map (fun f => { f with fired := true }) ∧
          (e.kind = .lift → t.ribbon.tapeUp = true) ∧
          (e.kind ≠ .lift → t.ribbon.ribbonUp = true) ∧
          t.line.cells = (s.line.cells.map fun d =>
            if e.cell = some d.id then
              { d with
                state := if d.state = .queued then .striking else d.state
                ribbon := match e.kind with
                  | .print | .underscore | .overprint =>
                    if e.first = true ∧ e.kind ≠ .overprint then s.ribbon.kind
                    else if d.ribbon = some .film ∧ s.ribbon.kind ≠ none then s.ribbon.kind
                    else d.ribbon
                  | _ => d.ribbon }
            else d) ∧
          { t.line with cells := s.line.cells } = s.line
      else t.hammer = s.hammer ∧ t.seq = s.seq ∧ t.line = s.line ∧ t.ribbon = s.ribbon

/-- O39. The pulse's end ends FIRE and begins SETTLE with the ribbon and tape lowered; at the end of
SETTLE a hammer that is not home takes HAMMER with the entry kept, and one at home begins ADVANCE by the
steps of the ribbon or tape in place: none for a kind that is absent, 6 for a LIFT with a tape, 1 for
FABRIC, max(4, width) for FILM, ceil(width / 3) for MULTI; an advance of no steps ends at once, as
ADVANCE_END ends it (R80, R115, R120, R122). -/
def Obligations.PulseThenSettleThenAdvance : Prop :=
  (∀ (s : State) (n : Nat), s.live = true → s.hammer.pulse = some n → s.seq.stage = some .fire →
    ∃ t, exec .pulseEnd s = .next t ∧ t.hammer = { s.hammer with pulse := none } ∧
      t.seq = { s.seq with stage := some .settle } ∧ t.ribbon.ribbonUp = false ∧
      t.ribbon.tapeUp = false ∧ s.sameWork t ∧ s.sameSettings t ∧ t.carrier = s.carrier) ∧
  (∀ (s : State) (e : Entry), s.live = true → s.seq.stage = some .settle → s.entry = some e →
    (s.inputs.hammerHome.raw = false →
      ∃ u : State, exec .settleEnd s = .next (u.conclude s) ∧ u.seq.mech = .fault ∧
        u.seq.fault = some .hammer ∧ u.strikes = s.strikes ∧ u.line = s.line ∧
        u.notices.rows.fault = s.notices.rows.fault.occur [5] ∧ s.sameSettings u) ∧
    (∀ w, s.inputs.hammerHome.raw = true → e.width = some w →
      let advancing : State := { s with seq := { s.seq with stage := some .advance } }
      let steps :=
        if e.kind = .lift then (if s.ribbon.tape = none then 0 else 6)
        else match s.ribbon.kind with
          | none => 0 | some .fabric => 1 | some .film => max 4 w | some .multi => (w + 2) / 3
      (0 < steps → ∃ u : State, exec .settleEnd s = .next (u.conclude s) ∧
        u.seq = advancing.seq ∧ u.ribbon.advance = steps ∧ u.strikes = s.strikes ∧
        u.line = s.line ∧ u.hammer = s.hammer ∧ s.sameSettings u) ∧
      (steps = 0 → ∃ u : State, exec .settleEnd s = .next (u.conclude s) ∧
        exec .advanceEnd advancing = .next (u.conclude advancing) ∧ u.seq.stage = none ∧
        u.seq.inFlight = none ∧ u.ribbon.advance = 0 ∧ u.hammer = s.hammer ∧ s.sameSettings u)))

/-- O40. When ADVANCE is done the head entry leaves the queue; one that carries the last mark of a group
on a STRIKING cell makes it STRUCK, with 1 glyph for a GLYPH cell, 2 after an overstrike, and no prior
form. The last of a LIFT group takes the second glyph off its LIFTING cell, or takes the cell from the
record as its last, or leaves a GAP (R81, R73, R9, R11, R133). -/
def Obligations.AdvanceCompletesEntry : Prop :=
  ∀ (s : State) (e : Entry) (rest : List Entry), s.live = true → s.seq.stage = some .advance →
    s.seq.testStrike = none → s.strikes.entries = e :: rest →
    ∃ u : State, exec .advanceEnd s = .next (u.conclude s) ∧ u.strikes.entries = rest ∧
      u.seq.stage = none ∧ u.seq.inFlight = none ∧ u.ribbon.advance = 0 ∧
      u.carrier = s.carrier ∧ u.hammer = s.hammer ∧ s.sameSettings u ∧ u.keys = s.keys ∧
      (e.cell = none ∨ e.last = false → u.line = s.line) ∧
      (∀ c id, e.cell = some id → e.last = true → s.line.find id = some c → c.state = .striking →
        u.line.cells = s.line.cells.map fun d => if d.id = id then
          { d with state := .struck, prior := none, glyphs :=
              (if d.kind = .glyph then (if e.kind = .overprint then 2 else 1) else d.glyphs) }
          else d) ∧
      (∀ c i, e.cell = some c.id → e.last = true → s.line.find c.id = some c →
        cellIndex c.id s.line.cells = some i → c.state = .lifting →
        let become (f : Cell → Cell) := s.line.cells.map fun d => if d.id = c.id then f d else d
        if c.glyphs = 2 then u.line.cells = become fun d => { d with
            state := .struck, glyphs := 1, overCode := none }
        else if i + 1 = s.line.cells.length then u.line.cells = s.line.cells.take i ∧
          u.line.cursor = (if i < s.line.cursor then s.line.cursor - 1 else s.line.cursor)
        else u.line.cells = become fun d => { d with
            kind := .gap, code := none, overCode := none, underline := false, glyphs := 0,
            state := .struck, prior := none })

/-- O41. A decay event lowers H by 1 and stops its timer at 0; a request that waits is granted by it once
H + n ≤ 600 and the hammer is home. A mark passed while the carrier is not driven is kept in the mark
count, which saturates at 1600 (R116, R117, R93, R95). -/
def Obligations.DecayEventsCoolTheCoil : Prop :=
  ∀ s : State, s.live = true →
    (s.hammer.decay = true → s.hammer.request = none →
      ∃ t, exec .decayEvent s = .next t ∧ t.hammer.heat = s.hammer.heat - 1 ∧
        t.hammer.decay = decide (1 < s.hammer.heat) ∧ t.hammer.pulse = s.hammer.pulse ∧
        t.seq = s.seq ∧ t.line = s.line ∧ s.sameSettings t) ∧
    (∀ n e, s.hammer.decay = true → s.hammer.request = some n → s.entry = some e →
      s.seq.stage = some .heatWait → s.inputs.hammerHome.qualified = true →
      ∃ t, exec .decayEvent s = .next t ∧
        (if s.hammer.heat - 1 + n ≤ 600
          then t.hammer.pulse = some n ∧ t.hammer.heat = s.hammer.heat - 1 + n ∧
            t.seq.stage = some .fire
          else t.hammer.request = some n ∧ t.hammer.heat = s.hammer.heat - 1 ∧ t.seq = s.seq)) ∧
    (s.carrier.move = .none →
      exec .encoderMarkPassed s = .next { s with carrier := { s.carrier with
        marks := min 1600 (s.carrier.marks + 1) } })

/-! ## Identification, inputs and sensing -/

/-- O42. A notch's width goes into the holding; one that arrives while the holding is full is an
overrun, which empties it and counts a failed read while reading. Classified by R97's table, a glitch (0
or 1) is ignored; a home notch (28 to 40) found in the search sets the angle to 0, known, and begins the
read, and any other width leaves the search as it is. In a read, a narrow notch (4 to 9) gives the value
0 and a wide one (12 to 20) the value 1; any other width (2, 3, 10, 11, 21 to 27, above 40) makes the
read invalid and it searches again, and a home notch too, which begins the next read at once. The third
failed read takes WHEEL_ID (R97, R98). -/
def Obligations.NotchesAreHeldAndClassified : Prop :=
  ∀ (s : State) (w : Nat), s.live = true →
    let taken : Wheel := { s.wheel with holding := none }
    let fails := s.wheel.failedReads + 1
    let kept (c : Instr) (u : State) := exec c s = .next (u.conclude s) ∧ u.line = s.line ∧
      u.strikes = s.strikes ∧ u.keys = s.keys ∧ u.spell = s.spell ∧ s.sameSettings u ∧
      u.carrier = s.carrier
    let goesOn (c : Instr) (wheel : Wheel) := ∃ u : State, kept c u ∧ u = { s with wheel := wheel }
    let wheelId (c : Instr) (wheel : Wheel) := ∃ u : State, kept c u ∧
      u.wheel = { wheel with failedReads := fails, ident := .idle, present := false } ∧
      u.seq.mech = .fault ∧ u.seq.fault = some .wheelId ∧ u.inputs.coverIdent = false ∧
      u.notices.rows.fault = s.notices.rows.fault.occur [4]
    let invalid (c : Instr) (wheel : Wheel) (next : Ident) :=
      (s.wheel.failedReads < 2 →
        goesOn c { wheel with failedReads := fails, ident := next }) ∧
      (2 ≤ s.wheel.failedReads → wheelId c wheel)
    (s.wheel.ident ≠ .idle → s.wheel.holding = none →
      ∃ t, exec (.notchTrailingEdge w) s = .next t ∧ t.wheel.holding = some w ∧
        t.wheel.failedReads = s.wheel.failedReads ∧ s.sameWork t ∧ s.sameSettings t ∧
        t.seq = s.seq ∧ t.carrier = s.carrier) ∧
    (∀ vs v, s.wheel.ident = .reading vs → s.wheel.holding = some v →
      invalid (.notchTrailingEdge w) taken (.searching false)) ∧
    (∀ seen v, s.wheel.ident = .searching seen → s.wheel.holding = some v →
      if 28 ≤ v ∧ v ≤ 40 then
        goesOn .notchClassified { taken with angle := 0, known := true, ident := .reading [] }
      else goesOn .notchClassified taken) ∧
    (∀ vs v, s.wheel.ident = .reading vs → s.wheel.holding = some v →
      if v ≤ 1 then goesOn .notchClassified taken
      else if 4 ≤ v ∧ v ≤ 9 then
        vs.length < 3 → goesOn .notchClassified { taken with ident := .reading (vs ++ [false]) }
      else if 12 ≤ v ∧ v ≤ 20 then
        vs.length < 3 → goesOn .notchClassified { taken with ident := .reading (vs ++ [true]) }
      else if 28 ≤ v ∧ v ≤ 40 then
        invalid .notchClassified { taken with angle := 0, known := true } (.reading [])
      else invalid .notchClassified taken (.searching false))

/-- O43. The fourth data notch, narrow or wide, ends the read: the four values, most significant first,
are the id in force, a wheel is present, its family is the id's own, or family 1 for an id without one,
and the wheel turns to petal 0 from wherever it stands (log entry 24). Two revolutions with no notch end
the search with no wheel; with notches but no home notch among them they take WHEEL_HOME, and a width
still in the notch holding is let go (the model's choice, log entry 45). An end without a fault, one with
no wheel too (the model's reading, log entry 24), makes a recovery succeed: the fault code is cleared,
CLEARED raised carrying FAULT, a repeating ALARM stopped, and a boundary reached, or the start-up
completed, or STARTING entered again. An id that differs from the one in force runs the wheel change
procedure: QUEUED cells of groups not begun at the end of the line are PENDING again, their groups
withdrawn, and placed again with the new wheel's escapements, with a run over what had been released; a
fill or overstrike not begun is undone, and a LIFT of another wheel; a code the wheel lacks leaves with
CELL_DROPPED (R90, R98, R99, R103 to R105, R171, R189). -/
def Obligations.IdentificationReadsId : Prop :=
  let recovers (s u : State) := u.seq.recovering = false ∧ u.seq.fault = none ∧
    u.notices.rows.cleared = s.notices.rows.cleared.occur [0x01] ∧
    match s.seq.startup with
    | none => u.seq.mech = .idle
    | some p =>
      if p.sensingDone = true ∧ s.spell.main ≠ .notRead ∧ s.spell.supplement ≠ .notRead then
        u.seq.mech = .idle ∧ u.seq.startup = none ∧
          u.notices.rows.ready = s.notices.rows.ready.occur [byteOf p.kind.number]
      else u.seq.mech = .starting ∧ u.seq.startup = some ⟨p.kind, true, true, p.sensingDone⟩
  let alarmStops (s u : State) := u.tone =
    if s.tone.sounding = some ⟨.alarm, true⟩ then ⟨s.tone.waiting, none⟩ else s.tone
  (∀ (s : State) (a b c d : Bool) (w : Nat), s.live = true → s.wheel.ident = .reading [a, b, c] →
    s.wheel.holding = some w →
    (if d then 12 ≤ w ∧ w ≤ 20 else 4 ≤ w ∧ w ≤ 9) →
    let id := 8 * bit a + 4 * bit b + 2 * bit c + bit d
    let listed := 1 ≤ id ∧ id ≤ 9
    let family := if id = s.wheel.id then s.wheel.family else if listed then id else 1
    let wheel : Wheel := { s.wheel with
      id := id, present := true, ident := .idle, holding := none, family := family,
      move := some (petalAngle 0 s.retained.wheelPhase) }
    let v := (({ s with
        wheel := wheel, inputs := { s.inputs with coverIdent := false } } : State).letLiftGo id).raise
      .wheel [byteOf id, byteOf family, byteOf (if listed then 0 else 1)]
    ∃ u : State, exec .notchClassified s = .next (u.conclude s) ∧ u.wheel = wheel ∧
      u.inputs.coverIdent = false ∧ u.keys = s.keys ∧ s.sameSettings u ∧
      (id = s.wheel.id → s.seq.startup = none → u.line = s.line ∧ u.strikes = s.strikes) ∧
      (id ≠ s.wheel.id → s.seq.startup = none →
        u.line = v.wheelChange.line ∧ u.strikes = v.wheelChange.strikes ∧
          u.notices.rows.wheel = v.notices.rows.wheel) ∧
      (s.seq.recovering = true → recovers s u ∧ (id = s.wheel.id → alarmStops s u))) ∧
  (∀ s : State, s.live = true → s.wheel.ident = .searching false →
    ∃ t, exec .searchRevolutionLimit s = .next t ∧ t.wheel.present = false ∧
      t.wheel.id = s.wheel.id ∧ t.wheel.family = s.wheel.family ∧ t.wheel.ident = .idle ∧
      t.inputs.coverIdent = false ∧ t.keys = s.keys ∧ s.sameSettings t) ∧
  (∀ s : State, s.live = true → s.wheel.ident = .searching false → s.seq.recovering = true →
    ∃ u : State, exec .searchRevolutionLimit s = .next (u.conclude s) ∧ recovers s u ∧
      alarmStops s u ∧ u.wheel.present = false ∧ u.strikes = s.strikes) ∧
  (∀ s : State, s.live = true → s.wheel.ident = .searching true →
    ∃ u : State, exec .searchRevolutionLimit s = .next (u.conclude s) ∧
      u.wheel = { s.wheel with ident := .idle, holding := none, present := false } ∧
      u.seq.mech = .fault ∧ u.seq.fault = some .wheelHome ∧ u.seq.stage = none ∧
      u.seq.recovering = false ∧ u.inputs.coverIdent = false ∧
      u.notices.rows.fault = s.notices.rows.fault.occur [0x03] ∧
      u.tone = s.tone.request s.settings.volume .alarm true ∧ u.line = s.line ∧
      u.strikes = s.strikes ∧ u.keys = s.keys ∧ s.sameSettings u) ∧
  (∀ (s : State) (i : Nat), s.line.returnedFrom = i → i ≤ s.line.cells.length →
    (s.line.cells.map (·.id)).Nodup → s.line.state = .open → s.text.aligned = none →
    (∀ c ∈ s.line.cells.take i, c.state ≠ .pending ∧ c.state ≠ .lifting ∧ c.prior = none) →
    (∀ c ∈ s.line.cells.drop i, c.prior = none ∧ (c.kind = .space ∨ c.kind = .glyph ∧
      (s.petalOf (c.code.getD 0)).isSome = true) ∧ (c.state = .pending ∨ c.state = .queued ∨
      c.state = .struck ∧ ∃ d ∈ s.line.cells.drop i, d.state = .queued)) →
    let x := ({ s.line with cells := s.line.cells.take i } : Line).endPos
    x + ((s.line.cells.drop i).map s.freshE).sum ≤ 1560 →
    let queued := (s.line.cells.drop i).filter fun c => c.state = .queued
    let back (c : Cell) : Cell :=
      if c.state = .queued then { c with state := .pending, wheelId := none, energy := none }
      else { c with state := .pending }
    let t := s.wheelChange
    t.line = { s.line with
        cells := s.line.cells.take i ++ chainFrom x ((s.line.cells.drop i).map fun c =>
          { back c with e := s.freshE c })
        run := if queued = [] then s.line.run
          else some (extendRun s.line.run s.line.firstPending .none) } ∧
      t.strikes.entries = s.strikes.entries.filter fun e =>
        !(queued.any fun c => e.cell = some c.id)) ∧
  (∀ (s : State) (c : Cell), s.cellBegun c.id = false →
    let t := s.undoOutside c
    let undone (f : Cell → Cell) :=
      t.line.cells = (s.line.cells.map fun d => if d.id = c.id then f d else d) ∧
      t.strikes.entries = s.strikes.entries.filter fun e => !decide (e.cell = some c.id)
    (∀ p, c.state = .queued → c.prior = some p → undone (fun d => d.restore p) ∧
      t.notices.rows.cellDropped = s.notices.rows.cellDropped.occur [1, c.unstruckCode]) ∧
    (c.state = .lifting → c.wheelId ≠ some s.wheel.id →
      undone (fun d => { d with state := .struck }) ∧
      t.notices.rows.liftRefused = s.notices.rows.liftRefused.occur [0, c.liftCode]) ∧
    (∀ i, c.kind = .glyph → s.petalOf (c.code.getD 0) = none →
      cellIndex c.id s.line.cells = some i →
      (s.dropIfMissing c).line.cells = s.line.cells.eraseIdx i ∧
      (s.dropIfMissing c).notices.rows.cellDropped =
        s.notices.rows.cellDropped.occur [0, c.dropCode]))

/-- O44. A raw level that comes to differ from the qualified state runs the 8 ms timer, and one that comes
back to it stops it; when the timer runs out the qualified state takes the raw level (R108). The halt cause
set holds the causes whose condition R83 gives. At a boundary a set that is not empty gives HALTED, with a
HALT notice on entering and on each cause that joins; an empty one ends a halt with CLEARED and gives
PAUSED by the pause flag and IDLE with an empty queue (with an entry at the head: O37). Off a boundary the
set is kept and the state stays. Paper that runs out in IDLE, PAUSED or HALTED gives HALTED in that event
(R75, R84, R85). -/
def Obligations.InputsAreQualified : Prop :=
  (∀ (s : State) (k : Input) (level : Bool), s.live = true → (s.inputs.get k).raw ≠ level →
    ∃ t, exec (.rawLevelChange k level) s = .next t ∧
      t.inputs.get k = ⟨level, (s.inputs.get k).qualified,
        level != (s.inputs.get k).qualified⟩ ∧
      (∀ j, j ≠ k → t.inputs.get j = s.inputs.get j) ∧ { t with inputs := s.inputs } = s) ∧
  (∀ (s : State) (k : Input) (d : Driven), s.live = true → (s.inputs.get k).timing = true →
    ∃ t, exec (.qualificationTimerExpiry k d) s = .next t ∧
      t.inputs.get k = ⟨(s.inputs.get k).raw, (s.inputs.get k).raw, false⟩ ∧
      (∀ j, j ≠ k → t.inputs.get j = s.inputs.get j) ∧ t.keys = s.keys ∧ s.sameSettings t) ∧
  (∀ (s : State) (k : HaltCause),
    let lift := ∃ e rest, s.strikes.entries = e :: rest ∧ e.kind = .lift
    k ∈ s.causesNow ↔ match k with
      | .coverOpen => s.inputs.cover.qualified = true ∨ s.inputs.coverIdent = true ∨
          s.inputs.coverSense = true
      | .paperOut => s.inputs.paper.qualified = true
      | .ribbonAbsent => s.ribbon.kind = none
      | .ribbonEnd => s.inputs.ribbonEnd.qualified = true
      | .noWheel => s.wheel.present = false ∨ s.seq.liftHeld = true
      | .tapeAbsent => s.ribbon.tape = none ∧ lift
      | .tapeEnd => s.inputs.tapeEnd.qualified = true ∧ lift) ∧
  (∀ s : State,
    let boundary := s.seq.mech = .idle ∨ s.seq.mech = .paused ∨ s.seq.mech = .halted ∨
      s.seq.mech = .running ∧ s.seq.stage = none ∧ s.seq.draining = false
    let set := byteOf ((s.causesNow.map fun k => match k with
      | .coverOpen => 1 | .paperOut => 2 | .ribbonAbsent => 4 | .ribbonEnd => 8
      | .noWheel => 16 | .tapeAbsent => 32 | .tapeEnd => 64).sum)
    let t := s.sequence
    let kept := t.strikes = s.strikes ∧ t.line = s.line ∧ t.keys = s.keys ∧ t.hammer = s.hammer ∧
      t.carrier = s.carrier ∧ t.wheel = s.wheel ∧ t.platen = s.platen ∧ s.sameSettings t
    (boundary → s.causesNow ≠ [] → kept ∧
      t.seq = { s.seq with mech := .halted, causes := s.causesNow } ∧
      t.notices.rows.halt =
        (if s.seq.mech ≠ .halted ∨ ∃ k ∈ s.causesNow, ¬ k ∈ s.seq.causes
          then s.notices.rows.halt.occur [set] else s.notices.rows.halt)) ∧
    (boundary → s.causesNow = [] → s.seq.pause = true ∨ s.strikes.entries = [] → kept ∧
      t.seq = { s.seq with mech := if s.seq.pause then .paused else .idle, causes := [] } ∧
      t.notices.rows.cleared = (if s.seq.mech = .halted then s.notices.rows.cleared.occur [0x00]
        else s.notices.rows.cleared)) ∧
    (¬ boundary → kept ∧ t.seq = { s.seq with causes := s.causesNow } ∧ t.notices = s.notices)) ∧
  (∀ (s : State) (d : Driven), s.live = true → s.inputs.paper = ⟨true, false, true⟩ →
    s.seq.mech = .idle ∨ s.seq.mech = .paused ∨ s.seq.mech = .halted →
    ∃ t, exec (.qualificationTimerExpiry .paper d) s = .next t ∧ t.seq.mech = .halted ∧
      .paperOut ∈ t.seq.causes)

/-- O45. The opening cover stops an entry in POSITION or HEAT_WAIT where it stands, unfired, with its
stage none and its request removed, and clears the angle known flag. In POSITION the carrier, the wheel
and the platen stop at the steps driven so far (an operand, log entry 14), the mark count cleared.
During a leaving move of ADJUST the carrier stops so and a boundary is reached at once, a rotation to
petal 0 running on (the model's choice, log entry 45). The close begins an identification and a sensing,
and the COVER_OPEN cause is present after either (R84, R95, R96, R106, R109, R193). -/
def Obligations.CoverStopsTheEntry : Prop :=
  ∀ (s : State) (d : Driven), s.live = true → s.inputs.cover.timing = true →
    s.inputs.cover.raw ≠ s.inputs.cover.qualified →
    ∃ u : State, exec (.qualificationTimerExpiry .cover d) s = .next (u.conclude s) ∧
      u.inputs.coverCause = true ∧ u.strikes = s.strikes ∧ u.line = s.line ∧
      (s.inputs.cover.raw = true → u.wheel.known = false ∧ u.wheel.ident = .idle ∧
        u.ribbon.sensing = none ∧
        (s.seq.stage = some .position → s.seq.leaving = false →
          u.carrier.move = .none ∧ u.wheel.move = none ∧ u.platen.move = none ∧
          (∀ x, s.carrier.move = .moving x → u.carrier.marks = 0 ∧
            u.carrier.known = s.carrier.known ∧ u.carrier.pos =
              if s.carrier.pos ≤ x then s.carrier.pos + min d.carrier (x - s.carrier.pos)
              else s.carrier.pos - min d.carrier (s.carrier.pos - x)) ∧
          (∀ a, s.wheel.move = some a → u.wheel.angle = stoppedAngle s.wheel.angle a d.wheel) ∧
          (∀ m, s.platen.move = some m → -2147483648 ≤ s.platen.counter →
            s.platen.counter ≤ 2147483647 → -2147483648 ≤ m.target → m.target ≤ 2147483647 →
            u.platen.counter =
              if s.platen.counter ≤ m.target then min m.target (s.platen.counter + d.platen)
              else max m.target (s.platen.counter - d.platen))) ∧
        (s.seq.leaving = true → (∀ st, s.carrier.move ≠ .homing st) →
          u.carrier.move = .none ∧ u.wheel.move = s.wheel.move ∧ u.platen = s.platen ∧
          u.seq.mech = .idle ∧ u.seq.leaving = false ∧ u.seq.testPos = none ∧
          (∀ x, s.carrier.move = .moving x → u.carrier.marks = 0 ∧ u.carrier.pos =
            if s.carrier.pos ≤ x then s.carrier.pos + min d.carrier (x - s.carrier.pos)
            else s.carrier.pos - min d.carrier (s.carrier.pos - x))) ∧
        (s.seq.stage = some .position ∨ s.seq.stage = some .heatWait → s.seq.leaving = false →
          s.seq.testStrike = none → u.seq.stage = none ∧ u.hammer.request = none ∧
          u.seq.inFlight = s.seq.inFlight ∧ u.hammer.pulse = s.hammer.pulse)) ∧
      (s.inputs.cover.raw = false → u.wheel.ident = .searching false ∧
        u.ribbon.sensing = some ⟨none, 0, 0⟩ ∧ u.seq.mech = s.seq.mech)

/-- O46. Four samples in a row that agree, or the fiftieth sample, set the two kinds from the contacts
of the last and end the sensing; until then the kinds stay. With both ribbon contacts open the ribbon is
absent, with A closed FABRIC, with B closed FILM, with both MULTI; with tape contact A alone closed the
tape is LIFT_TAPE, with B alone COVER_TAPE, else absent (R119). -/
def Obligations.SensingSetsKinds : Prop :=
  ∀ (s : State) (x : Sensing) (c : Contacts), s.live = true → s.ribbon.sensing = some x →
    let agreeing := if x.last = some c then x.agreeing + 1 else 1
    ∃ t, exec (.sensingSample c) s = .next t ∧ t.keys = s.keys ∧ s.sameSettings t ∧
      t.wheel.id = s.wheel.id ∧
      if 4 ≤ agreeing ∨ 50 ≤ x.taken + 1 then
        t.ribbon.kind = (match c.ribbonA, c.ribbonB with
            | false, false => none | true, false => some .fabric
            | false, true => some .film | true, true => some .multi) ∧
          t.ribbon.tape = (match c.tapeA, c.tapeB with
            | true, false => some .liftTape | false, true => some .coverTape
            | _, _ => none) ∧
          t.ribbon.sensing = none ∧
          t.inputs.coverSense = false
      else t = { s with ribbon := { s.ribbon with
        sensing := some ⟨some c, agreeing, x.taken + 1⟩ } }

/-! ## Spelling -/

/-- O47. The main header's read sets the main status and FORMAT flag by its marker and exponent and is
followed by the supplement's; the supplement's sets its own, leaves the port idle with no lookup waiting,
and one DICT notice of cause STATUS carries the two statuses and flags; as the last of the four parts of
the start-up it brings READY. A bucket that holds the word's signature before an empty slot makes its
record KNOWN and ends the lookup. A bucket with an empty slot before the signature, or full without it and
without a chain that goes on, has not found the word: a PRESENT supplement is searched after the main ROM,
else the User Word List is compared once more, and then the record is UNKNOWN, with the SPELL tone, a SPELL
notice with the codes as typed, and a "? word" message where no cell of it is kept back. A chain that goes
on past the fourth bucket ends there; a broken one raises a DICT notice of cause FORMAT for its ROM (one
for each: log entry 46). For a read the port sends 0x03 and the 24-bit address, high byte first: 0 for a
header, 16 + 32 × b for bucket b, to the ROM it selects (R147, R148, R150 to R152, R188). -/
def Obligations.DictionaryReadsAreJudged : Prop :=
  (∀ (s : State) (data : List Byte), s.live = true → s.spell.port = .header .main →
    s.spell.supplement = .notRead → data.length = 16 →
    ∃ u : State, exec (.dictReadComplete data) s = .next (u.conclude s) ∧
      u.spell.port = .header .supplement ∧ u.spell.main = (headerStatus data).1 ∧
      (∀ b0 b1 b2 b3 x more, data = b0 :: b1 :: b2 :: b3 :: x :: more →
        u.spell.main = if [b0, b1, b2, b3] = ([0x4E, 0x44, 0x58, 0x31] : List Byte) ∧
            8 ≤ x.toNat ∧ x.toNat ≤ 13 then .present (2 ^ x.toNat) else .absent) ∧
      (∀ b0 b1 b2 b3 x more, data = b0 :: b1 :: b2 :: b3 :: x :: more →
        u.spell.mainFormat = decide ([b0, b1, b2, b3] = ([0x4E, 0x44, 0x58, 0x31] : List Byte) ∧
            ¬ (8 ≤ x.toNat ∧ x.toNat ≤ 13))) ∧
      u.line = s.line ∧ u.strikes = s.strikes ∧ s.sameSettings u) ∧
  (∀ (s : State) (data : List Byte), s.live = true → s.spell.port = .header .supplement →
    data.length = 16 →
    ∃ u : State, exec (.dictReadComplete data) s = .next (u.conclude s) ∧
      (s.spell.lookups = [] → u.spell.port = .idle) ∧ u.spell.main = s.spell.main ∧
      (∀ b0 b1 b2 b3 x more, data = b0 :: b1 :: b2 :: b3 :: x :: more →
        let marked := [b0, b1, b2, b3] = ([0x4E, 0x44, 0x58, 0x31] : List Byte)
        let inRange := 8 ≤ x.toNat ∧ x.toNat ≤ 13
        u.spell.supplement = (if marked ∧ inRange then .present (2 ^ x.toNat) else .absent) ∧
          u.notices.rows.dict = s.notices.rows.dict.occur
            [0, byteOf (match s.spell.main with | .notRead => 0 | .absent => 1 | .present _ => 2),
              if marked ∧ inRange then 2 else 1,
              byteOf ((if s.spell.mainFormat then 1 else 0) +
                if marked ∧ ¬ inRange then 2 else 0)]) ∧
      (∀ p, s.seq.startup = some p → s.seq.mech = .starting → p.carrierDone = true →
        p.wheelDone = true → p.sensingDone = true → s.spell.main ≠ .notRead →
        u.seq.mech = .idle ∧ u.seq.startup = none ∧
          u.notices.rows.ready = s.notices.rows.ready.occur [byteOf p.kind.number]) ∧
      u.strikes = s.strikes ∧ s.sameSettings u) ∧
  (∀ (s : State) (data : List Byte) (ws : List Nat) (l : Lookup) (rom : Rom) (i j : Nat),
    s.live = true → s.spell.port = .bucket rom i → s.spell.lookup = some l →
    l.dropped = false → s.spell.lookups = [] → s.spell.table.any (·.id = l.id) = true →
    data.length = 32 → wides data = some ws → j < 15 → ws[j]? = some (signature l.letters) →
    (∀ k, k < j → ws[k]? ≠ some 0xFFFF) →
    ∃ u : State, exec (.dictReadComplete data) s = .next (u.conclude s) ∧
      u.spell.lookup = none ∧ u.spell.port = .idle ∧
      (∀ q ∈ u.spell.table, q.id = l.id → q.state = .known) ∧ u.line = s.line ∧
      u.strikes = s.strikes ∧ u.tone = s.tone ∧ s.sameSettings u) ∧
  (∀ (s : State) (data : List Byte) (ws : List Nat) (l : Lookup) (rom : Rom) (i count : Nat)
    (r : WordRecord), s.live = true → s.spell.port = .bucket rom i → s.spell.lookup = some l →
    l.dropped = false → s.spell.lookups = [] → s.spell.record l.id = some r → r.accepted = false →
    (match rom with | .main => s.spell.main | .supplement => s.spell.supplement) = .present count →
    data.length = 32 → wides data = some ws →
    let misses (u : State) := exec (.dictReadComplete data) s = .next (u.conclude s) ∧
      u.line = s.line ∧ u.strikes = s.strikes ∧ s.sameSettings u ∧ s.sameMechanism u ∧
      match rom, s.spell.supplement with
      | .main, .present n =>
        u.spell.lookup = some { l with rom := .supplement, reads := 0 } ∧
          u.spell.port = .bucket .supplement (hashA l.letters % n) ∧
          u.spell.table = s.spell.table ∧ u.tone = s.tone
      | _, _ => u.spell.lookup = none ∧ u.spell.port = .idle ∧
        if l.letters ∈ s.retained.words then
          u.spell.table = s.spell.table.map (fun q =>
            if q.id = l.id then { q with state := .known } else q) ∧ u.tone = s.tone
        else u.spell.table = s.spell.table.map (fun q =>
            if q.id = l.id then { q with state := .unknown } else q) ∧
          u.tone = s.tone.request s.settings.volume .spell false ∧
          u.notices.rows.spell =
            s.notices.rows.spell.occur (0x00 :: byteOf l.id :: s.typedCodes r) ∧
          u.display.slot =
            if s.effMode = .hold ∧ ∃ c ∈ s.line.cells, c.state = .pending ∧ c.wordId = some l.id
            then s.display.slot
            else some ⟨ascii "? " ++ s.typedCodes r, true, some l.id⟩
    (∀ j, j < 15 → ws[j]? = some 0xFFFF → signature l.letters ≠ 0xFFFF →
      (∀ k, k < j → ws[k]? ≠ some 0xFFFF ∧ ws[k]? ≠ some (signature l.letters)) →
      ∃ u, misses u ∧ u.notices.rows.dict = s.notices.rows.dict) ∧
    (∀ next, (∀ k, k < 15 → ws[k]? ≠ some 0xFFFF ∧ ws[k]? ≠ some (signature l.letters)) →
      ws[15]? = some next →
      (next = 0xFFFF ∨ next < count ∧ next ≠ 0xFFFF ∧ 3 ≤ l.reads →
        ∃ u, misses u ∧ u.notices.rows.dict = s.notices.rows.dict) ∧
      (next ≠ 0xFFFF → count ≤ next → ∃ u, misses u ∧
        u.notices.rows.dict = s.notices.rows.dict.occur
          [0x01, byteOf s.spell.main.number, byteOf s.spell.supplement.number,
            if rom = .main then 0x01 else 0x02]) ∧
      (next ≠ 0xFFFF → next < count → l.reads < 3 →
        ∃ u : State, exec (.dictReadComplete data) s = .next (u.conclude s) ∧
          u.spell = { s.spell with
            lookup := some { l with reads := l.reads + 1 }, port := .bucket rom next } ∧
          u.line = s.line ∧ u.strikes = s.strikes ∧ u.tone = s.tone ∧
          u.notices = s.notices ∧ s.sameSettings u))) ∧
  (∀ (rom : Rom) (b : Nat), b < 8192 →
    (DictPort.bucket rom b).select = some rom ∧ (DictPort.header rom).select = some rom ∧
      (DictPort.header rom).sends = [0x03, 0x00, 0x00, 0x00] ∧
      ∃ h m l : Byte, (DictPort.bucket rom b).sends = [0x03, h, m, l] ∧
        65536 * h.toNat + 256 * m.toNat + l.toNat = 16 + 32 * b)

/-- O48. The bucket hash starts from 0 and becomes (A × 31 + c) mod 65536 for each code, and the bucket is
A mod Bcount; the signature starts from n, becomes (S × 7 + c) mod 2048 for each code, and is S × 32 + n.
For a word of up to 24 codes it carries the length in its low five bits, is at most 65528 and never equals
0xFFFF (R149). -/
def Obligations.SignatureIsNeverEmptySlot : Prop :=
  (∀ (sp : Spelling) (l : Lookup) (rom : Rom) (bcount : Nat),
    (sp.searchRom l rom bcount).port = .bucket rom (hashA l.letters % bcount)) ∧
  hashA [] = 0 ∧ (∀ w c, hashA (w ++ [c]) = (hashA w * 31 + c) % 65536) ∧
  ∀ w : List Nat,
    (∃ f : List Nat → Nat, f [] = w.length ∧ (∀ v c, f (v ++ [c]) = (f v * 7 + c) % 2048) ∧
      signature w = f w * 32 + w.length) ∧
    (1 ≤ w.length → w.length ≤ 24 →
      signature w % 32 = w.length ∧ signature w ≤ 65528 ∧ signature w ≠ 0xFFFF)

/-! ## Display and tones -/

/-- O49. A render brings w to the cursor by R160's table and afterwards w ≤ c ≤ w + 35; a toggle of the
blink phase restarts its timer, an expiry empties the slot, and each makes a render that changes nothing
of the line. A line open is told to the Display Controller, and an event that told it of a change ends in
a render, with the blink phase on and its timer restarted after a change of the cursor (log entry 12)
(R160, R162, R164, R167, R19). When a send completes with GO set, NEXT is handed to the port, GO is
cleared and the next send begins; with GO clear the port becomes idle (R168). The 92 bytes of a frame are
the command, the two rows, their marks and the lamps: row 1 by R161's table with the cursor block, row 2 by
R163's with the templates of R165, the marks under PENDING cells and under a held word, the lamps by R166
(R161 to R166, R185). -/
def Obligations.RendersKeepTheWindow : Prop :=
  ∀ s : State,
    (let t := s.render
     let c := s.line.cursor
     let w := s.display.origin
     t.display.origin = (if c > w + 35 then c - 35 else if c < w + 4 then max 0 (c - 4) else w) ∧
       t.WindowSound ∧ t.display.next = t.frame ∧ t.line = s.line) ∧
    (∀ x v, (s.openLine x v).display.told = true) ∧
    (∀ old, s.display.told = true ∨ s.display.cursorTold = true →
      let t := s.renderIf old
      t.WindowSound ∧ t.display.next = t.frame ∧ t.line = s.line ∧
        (s.display.cursorTold = true → t.display.phaseOn = true ∧ t.display.blinkTimer = 250)) ∧
    (s.live = true → ∃ t, exec .blinkToggle s = .next t ∧
      t.display.phaseOn = !s.display.phaseOn ∧ t.display.blinkTimer = 250 ∧
      t.display.next = t.frame ∧ s.sameWork t ∧ s.sameMechanism t ∧ s.sameSettings t) ∧
    (s.live = true → s.display.slotTimer.isSome = true → ∃ t, exec .messageExpiry s = .next t ∧
      t.display.slot = none ∧ t.display.slotTimer = none ∧ t.display.next = t.frame ∧
      s.sameWork t ∧ s.sameMechanism t ∧ s.sameSettings t) ∧
    (s.live = true → s.display.sending = true →
      exec .displaySendComplete s = .next { s with display :=
        if s.display.go = true
          then { s.display with current := s.display.next, go := false }
          else { s.display with sending := false } }) ∧
    (let f := s.frame
     let w := s.display.origin
     let signed (i : Int) := ascii (if i < 0 then "-" else "+") ++ decimal i.natAbs
     let held := match s.seq.mech with
       | .fault => none | .halted => none | .starting => none | .adjust => none
       | _ => s.spell.table.find? fun r =>
           decide (r.state = .unknown) && !r.accepted && s.recordKept r
     let text := match s.seq.mech with
       | .fault => ascii "FAULT " ++ ascii (match s.seq.fault with
           | none => "" | some .carrierStall => "CARRIER STALL" | some .carrierHome => "CARRIER HOME"
           | some .wheelHome => "WHEEL HOME" | some .wheelId => "WHEEL ID" | some .hammer => "HAMMER")
       | .halted => ascii "HALT " ++ (match s.seq.causes with
           | [] => []
           | k :: ks => ascii (match k with
               | .coverOpen => "COVER OPEN" | .paperOut => "PAPER OUT"
               | .ribbonAbsent => "RIBBON ABSENT" | .ribbonEnd => "RIBBON END"
               | .noWheel => "NO WHEEL" | .tapeAbsent => "TAPE ABSENT" | .tapeEnd => "TAPE END") ++
             (if ks = [] then [] else ascii " +" ++ decimal ks.length))
       | .starting => ascii "STARTING"
       | .adjust => ascii "ADJUST IMP " ++ signed s.retained.impression ++ ascii " PHASE " ++
           signed s.retained.wheelPhase ++ ascii " OFFSET " ++ signed s.retained.printOffset
       | _ => match held, s.display.slot with
         | some r, _ => ascii "? " ++ s.typedCodes r
         | none, some m => m.text
         | none, none => ascii "L" ++ decimal s.settings.left ++ ascii " R" ++
             decimal s.settings.right ++
             ascii (match s.pitch with
               | .ps => " PS" | .ten => " P10" | .twelve => " P12" | .fifteen => " P15") ++
             ascii " I" ++ decimal s.settings.impression ++
             ascii (match s.settings.spacing with
               | .s8 => " S1" | .s12 => " S1.5" | .s16 => " S2" | .s20 => " S2.5" | .s24 => " S3") ++
             ascii (match s.settings.mode with
               | .direct => " DIRECT" | .word => " WORD" | .line => " LINE") ++
             ascii (match s.line.format with
               | .normal => "" | .center => "/C" | .flushRight => "/F" | .justify => "/J") ++
             ascii (match s.settings.spell with
               | .off => " OFF" | .alert => " ALERT" | .hold => " HOLD")
     let bit' (b j : Nat) := (f.getD (b + j / 8) 0).getLsbD (7 - j % 8)
     f.length = 92 ∧ f[0]? = some 0xD0 ∧
       (f.drop 41).take 40 = (text ++ List.replicate 40 0x20).take 40 ∧
       (∀ j, j < 40 →
         f[1 + j]? = some (
           if s.display.phaseOn = true ∧ w + j = s.line.cursor then 0x1F
           else match s.line.cells[w + j]? with
             | some c => (match c.kind with
                 | .glyph => c.overCode.getD (c.code.getD 0x20)
                 | .space => 0x20 | .tab => 0x1A | .gap => 0x1B)
             | none =>
               if w + j = s.line.cells.length ∧ s.line.state = .returned then 0x1C else 0x20) ∧
         bit' 81 j = (match s.line.cells[w + j]? with
           | some c => decide (c.state = .pending ∧ c.overCode = none ∧ c.kind ≠ .gap)
           | none => false) ∧
         bit' 86 j = (match held with
           | some r => decide (2 ≤ j ∧ j < 2 + (s.typedCodes r).length)
           | none => false)) ∧
       (List.range 8).map (bit' 91) = [decide (s.pitch = .ps), s.text.bold, s.text.underline,
         decide (s.settings.mode = .word), decide (s.settings.mode = .line),
         decide (s.settings.spell ≠ .off), decide (s.runStatus = .blocked),
         decide (s.seq.mech = .fault)]) ∧
    (s.runStatus = .blocked → s.settings.spell = .hold ∧ s.settings.mode ≠ .direct) ∧
    (∀ r i, cellIndex r.first s.line.cells = some i → s.typedCodes r =
      (((s.line.cells.drop i).take r.count).filterMap (·.code)).take 24) ∧
    (∀ n, n < 10 ^ 19 → (decimal n).foldl (fun v b => 10 * v + (b.toNat - 0x30)) 0 = n ∧
      (∀ b ∈ decimal n, 0x30 ≤ b.toNat ∧ b.toNat ≤ 0x39) ∧
      (10 ≤ n → (decimal n).head? ≠ some 0x30) ∧ (n < 10 → (decimal n).length = 1))

/-- O50. A tone request is handled by the first line of R170's table that applies. A tone without the
repeat flag completes, and the pending tone sounds in its place; an ALARM with the flag runs on (R171). -/
def Obligations.ToneRequestsFollowTable : Prop :=
  (∀ (t : ToneGenerator) (v : Volume) (k : ToneKind) (rep : Bool),
     let r := t.request v k rep
     (v = .off → r = t) ∧
     (v ≠ .off → t.sounding = none → r = { t with sounding := some ⟨k, rep⟩ }) ∧
     (v ≠ .off → ∀ snd, t.sounding = some snd →
       (k = .alarm → snd.kind = .alarm →
         r = { t with sounding := some ⟨.alarm, snd.repeating || rep⟩ }) ∧
       (k = .alarm → snd.kind ≠ .alarm → r = { t with sounding := some ⟨.alarm, rep⟩ }) ∧
       (k ≠ .alarm → t.waiting = none → r = { t with waiting := some ⟨k, rep⟩ }) ∧
       (k ≠ .alarm → ∀ w, t.waiting = some w →
         r = if w.kind.priority ≤ k.priority then { t with waiting := some ⟨k, rep⟩ } else t))) ∧
  (∀ s : State, s.live = true →
     (∀ k, s.tone.sounding = some ⟨k, false⟩ →
       exec .toneComplete s = .next { s with tone := ⟨s.tone.waiting, none⟩ }) ∧
     (∀ k, s.tone.sounding = some ⟨k, true⟩ → exec .toneComplete s = .next s))

/-! ## Energies and placement -/

/-- O51. Every LIFT entry of a cell's group carries one energy index: with lift tape the cell's recorded
index plus 4, at most 31; with cover tape the recorded index (R113). A release or gap-fill group is the
PRINT of the glyph at x, again at x + 1 with an index 2 less where the cell is bold, and then the
underscores; an overstrike group is the OVERPRINT and its bold strike; a LIFT group lifts the last glyph,
and with the first one the underscores. E is 6 + 3k + 3(p − 3) + r + t, held between 1 and 31. Each entry
carries the fields of R57's and R131's tables. With e at most 36 a group holds at most 7 entries, an
overstrike group at most 2 (R57, R59, R69, R111, R112, R131). -/
def Obligations.LiftEntriesCarryOneEnergy : Prop :=
  (∀ (s : State) (c : Cell) (n : Nat) (e : Entry), c.energy = some n → e ∈ s.liftPlan c →
    e.kind = .lift ∧
      (s.ribbon.tape = some .liftTape → e.energy = some (min 31 (n + 4))) ∧
      (s.ribbon.tape = some .coverTape → e.energy = some n)) ∧
  ∀ (s : State) (c : Cell),
    let index (code : Byte) : Nat :=
      let r : Int := match s.ribbon.kind with | some .fabric => 2 | some .multi => 1 | _ => 0
      let i : Int := 6 + 3 * (energyClass s.wheel.family code : Int) +
        3 * ((s.settings.impression : Int) - 3) + r + s.retained.impression
      if i < 1 then 1 else if 31 < i then 31 else i.toNat
    let onPaper (x : Nat) : Nat :=
      let p := (x : Int) + s.retained.printOffset
      if p < 0 then 0 else if 1559 < p then 1559 else p.toNat
    let entry (kind : EntryKind) (wheel x energy : Nat) (code : Byte) : Entry :=
      { id := 0, kind := kind, x := some (onPaper x), voff := some c.voff, feed := none,
        offsetAfter := none, petal := some ((petal s.wheel.family code).getD 0),
        energy := some energy, width := some c.e, wheelId := some wheel, cell := some c.id,
        first := false, last := false }
    let glyph (kind : EntryKind) (code : Byte) :=
      entry kind s.wheel.id c.x (index code) code ::
        if c.bold then [entry kind s.wheel.id (c.x + 1) (max 1 (index code - 2)) code] else []
    let unders (one : Nat → Entry) := if c.underline then (s.underscoresOf c).map one else []
    let under := unders fun x => entry .underscore s.wheel.id x (index 0x5F) 0x5F
    s.releasePlan c = (match c.kind with
      | .glyph => glyph .print (c.code.getD 0) ++ under
      | .space => under
      | .tab => [] | .gap => []) ∧
    (∀ code, s.overPlan c code = glyph .overprint code ∧ (s.overPlan c code).length ≤ 2) ∧
    (∀ code, c.kind = .glyph → c.code = some code → s.recordedEnergy c = index code) ∧
    (c.kind = .space → s.recordedEnergy c = index 0x5F) ∧
    (∀ n w tape, c.energy = some n → c.wheelId = some w → s.ribbon.tape = some tape →
      let lift (x : Nat) (code : Byte) :=
        entry .lift w x (match tape with | .liftTape => min 31 (n + 4) | .coverTape => n) code
      let lifts (code : Byte) :=
        lift c.x code :: if c.bold then [lift (c.x + 1) code] else []
      s.liftPlan c = match c.kind with
        | .glyph => if c.glyphs = 2 then lifts (c.overCode.getD 0)
            else lifts (c.code.getD 0) ++ unders fun x => lift x 0x5F
        | _ => unders fun x => lift x 0x5F) ∧
    (c.e ≤ 36 → (s.releasePlan c).length ≤ 7 ∧ (s.liftPlan c).length ≤ 7)

/-- O52. The underscores of a cell are laid out from the underscore width Wu, f in fixed pitch and 8 to 12
steps in PS: ceil(e / Wu) strikes, the first at x and the last ending exactly at x + e where e is at least
Wu, each within Wu of the one before it; one strike at x where e is less. With e at most 36 there are at
most 5, and every family has a petal for '_' (R58). -/
def Obligations.UnderscoresCoverTheCell : Prop :=
  (∀ (s : State) (c : Cell), s.underscoresOf c =
    underscoreXs c.x c.e (underscoreWidth s.wheel.family s.pitch)) ∧
  (∀ (family : Nat) (p : EffPitch), (∀ f, p.unit = some f → underscoreWidth family p = f) ∧
    8 ≤ underscoreWidth family p ∧ underscoreWidth family p ≤ 12) ∧
  (∀ family, 1 ≤ family → family ≤ 9 → (petal family 0x5F).isSome = true) ∧
  (∀ x e wu : Nat, 8 ≤ wu → e ≤ 36 → (underscoreXs x e wu).length ≤ 5) ∧
  ∀ x e wu : Nat, 0 < wu →
    let xs := underscoreXs x e wu
    (e < wu → xs = [x]) ∧
    (wu ≤ e → xs.length = (e + wu - 1) / wu ∧ xs.head? = some x ∧
      (∀ j, j + 1 < xs.length → xs[j]? = some (x + j * wu)) ∧ xs.getLast? = some (x + e - wu) ∧
      ∀ i a b, xs[i]? = some a → xs[i + 1]? = some b → a < b ∧ b ≤ a + wu)

/-- O53. Whole-line placement first removes the trailing SPACE cells, the cursor and the release
boundary following. A CENTER line of the N steps left is then placed at L + floor((R − L − N) / 2) where
N fits the margins and at L otherwise, and a FLUSH_RIGHT line at R − N or at L, or at 1560 − N where it
would pass 1560; every cell left follows the one before it and keeps its escapement (R63 to R65; log
entry 19: every cell PENDING). -/
def Obligations.WholeLineIsPlaced : Prop :=
  ∀ s : State, s.line.format.isPlaced = true → (∀ c ∈ s.line.cells, c.state = .pending) →
    let t := s.placeWhole
    let left := (s.line.cells.reverse.dropWhile fun c => c.kind = .space).reverse
    let n := (left.map (·.e)).sum
    let l := s.settings.left
    let r := s.settings.right
    let start :=
      if s.line.format = .center then (if n ≤ r - l then l + (r - l - n) / 2 else l)
      else (if l + n ≤ r then r - n else l)
    t.line.Chained ∧ t.line.cells.map (·.e) = left.map (·.e) ∧
      t.line.cells.map (·.id) = left.map (·.id) ∧
      t.line.start = (if 1560 < start + n then 1560 - n else start) ∧
      (s.line.cursor ≤ s.line.cells.length → t.line.cursor = min s.line.cursor left.length) ∧
      (∀ q, s.line.run = some q → q.b ≤ s.line.cells.length →
        t.line.run = some { q with b := min q.b left.length })

/-! ## Invariants that every step keeps -/

/-- O54. Whatever the command, the heat account never exceeds 600 (R117) and the Strike Queue never holds
more than 32 entries (R71). -/
def Obligations.HeatAndStrikeQueueStayBounded : Prop :=
  (∀ s t : State, s.HeatBounded → step s = .next t → t.HeatBounded) ∧
  (∀ s t : State, s.StrikesBounded → step s = .next t → t.StrikesBounded)

/-- O55. The Key Queue holds at most 64 entries after every step, and while the part is live BUSY follows
its free count: asserted at 8 or fewer, deasserted at 24 or more, kept as it was between (R172, R177). -/
def Obligations.BusyFollowsKeyQueue : Prop :=
  ∀ s t : State, s.KeysBounded → (s.live = true → s.BusySound) → step s = .next t →
    t.KeysBounded ∧ (t.live = true → t.BusySound ∧
      (s.live = true → 8 < 64 - t.keys.length → 64 - t.keys.length < 24 →
        t.link.busyLine = s.link.busyLine))

/-- O56. The cursor stays between 0 and n, and the line holds at most 160 cells, after every step (R1, R2,
R6). So do the laws of the Line Record: the first cell stands at s, every other where the one before it
ends, none passes 1560 and none but a TAB takes more than 36 (R5); no PENDING cell precedes one that is not
(R7); every entry that names a cell names a QUEUED, STRIKING or LIFTING cell of the line, and every such
cell is named by an entry (R13). -/
def Obligations.CursorAndCellsStayInLine : Prop :=
  (∀ s t : State, s.CursorInside → s.LineBounded → step s = .next t →
    t.CursorInside ∧ t.LineBounded) ∧
  (∀ s t : State, s.LineBounded → s.LineSound → step s = .next t → t.LineSound)

/-- O57. After every step the window holds the cursor: w ≤ c ≤ w + 35 (R160). -/
def Obligations.WindowAlwaysShowsCursor : Prop :=
  ∀ s t : State, s.WindowSound → step s = .next t → t.WindowSound

/-- O58. Once the frame error log holds a record it keeps the first erroneous frame until CLEAR_ERROR_LOG
or a reset, and the error count stays between 1 and 255 while it holds one (R174). -/
def Obligations.ErrorLogKeepsFirstFrame : Prop :=
  ∀ (s t : State) (r : ErrorRecord), s.link.errorLog = some r → 1 ≤ s.link.errorCount →
    s.link.errorCount ≤ 255 → step s = .next t →
    (t.link.errorLog = some r ∧ 1 ≤ t.link.errorCount ∧ t.link.errorCount ≤ 255) ∨
    ((∃ n a, s.pending.head? = some (.clearErrorLog n a)) ∧ t.link.errorLog = none ∧
      t.link.errorCount = 0) ∨
    (t.Fresh .cold ∨ t.Fresh .warm) ∨ (s.power.resetLow = true ∧ t.link.errorLog = none)

/-- O59. The settings in use are those of the Retained Area, the tab stops are at most 16, in ascending
order without duplicates, the User Word List holds at most 48 words and the trims stay within their
ranges, after every step (R44, R157, R186, R191). -/
def Obligations.RetainedAreaStaysSound : Prop :=
  ∀ s t : State, s.RetainedSound → step s = .next t → t.RetainedSound

/-- O60. The state after reset meets every invariant above, O58's among them: its error log is empty. That
State.reset is the part right after a cold start, with the levels it holds, is the model's choice (log
entry 7). -/
def Obligations.ResetMeetsInvariants : Prop :=
  State.reset.HeatBounded ∧ State.reset.StrikesBounded ∧ State.reset.KeysBounded ∧
    State.reset.BusySound ∧ State.reset.CursorInside ∧ State.reset.LineBounded ∧ State.reset.LineSound ∧
    State.reset.WindowSound ∧
    State.reset.ErrorLogSound ∧ State.reset.link.errorLog = none ∧ State.reset.RetainedSound
end

