-- ==== Sys2Proof/Laws/Kept.lean ====
section
/-! SUPPORT. What the end of an event never touches: the text settling, the Print Sequencer's decision
and the release run leave the fields of `Kept` as they were. -/

namespace Sys2Proof.Machine

/-- The fields that `State.textSettle`, `State.sequence` and everything they call leave as they are. -/
structure Kept where
  pending : List Instr
  power : Power
  link : Link
  keys : List KeyEntry
  settings : Settings
  retained : Retained
  inputs : Inputs
  bold : Bool
  underline : Bool
  pause : Bool
  startup : Option StartUp
  wheelId : Nat
  present : Bool
  family : Nat
  position : Nat
  angle : Nat
  ident : Ident
  counter : Int
  ribbon : Option RibbonKind
  tape : Option TapeKind
  sensing : Option Sensing
  main : DictStatus
  supplement : DictStatus

/-- The kept fields of a state. -/
def State.kept (s : State) : Kept :=
  { pending := s.pending, power := s.power, link := s.link, keys := s.keys, settings := s.settings,
    retained := s.retained, inputs := s.inputs, bold := s.text.bold, underline := s.text.underline,
    pause := s.seq.pause, startup := s.seq.startup, wheelId := s.wheel.id,
    present := s.wheel.present, family := s.wheel.family, position := s.carrier.pos,
    angle := s.wheel.angle, ident := s.wheel.ident, counter := s.platen.counter, ribbon := s.ribbon.kind,
    tape := s.ribbon.tape, sensing := s.ribbon.sensing, main := s.spell.main,
    supplement := s.spell.supplement }

variable {s t : State}

/-- A record update that touches no kept field. -/
@[simp] theorem kept_mk (t : State) {ln tx st sq ca wh pl ha ri sp di tn no}
    (hb : tx.bold = t.text.bold) (hu : tx.underline = t.text.underline)
    (hp : sq.pause = t.seq.pause) (hs : sq.startup = t.seq.startup)
    (hi : wh.id = t.wheel.id) (hw : wh.present = t.wheel.present)
    (hf : wh.family = t.wheel.family) (hq : ca.pos = t.carrier.pos) (ha' : wh.angle = t.wheel.angle)
    (hd : wh.ident = t.wheel.ident) (hc : pl.counter = t.platen.counter)
    (hk : ri.kind = t.ribbon.kind) (ht : ri.tape = t.ribbon.tape)
    (hn : ri.sensing = t.ribbon.sensing)
    (hm : sp.main = t.spell.main) (hx : sp.supplement = t.spell.supplement) :
    (State.mk t.pending t.power t.link t.keys ln tx t.settings st sq ca wh pl ha ri t.inputs sp di tn
      no t.retained).kept = t.kept := by
  simp [State.kept, *]

section Fields
/-! The kept fields, one by one, for a state that keeps them. -/
theorem Kept.fields (h : t.kept = s.kept) :
    t.pending = s.pending ∧ t.power = s.power ∧ t.link = s.link ∧ t.keys = s.keys ∧
      t.settings = s.settings ∧ t.retained = s.retained ∧ t.inputs = s.inputs ∧
      t.text.bold = s.text.bold ∧ t.text.underline = s.text.underline ∧
      t.seq.pause = s.seq.pause ∧ t.seq.startup = s.seq.startup ∧ t.wheel.id = s.wheel.id ∧
      t.wheel.present = s.wheel.present ∧ t.wheel.family = s.wheel.family ∧
      t.carrier.pos = s.carrier.pos ∧ t.wheel.angle = s.wheel.angle ∧ t.wheel.ident = s.wheel.ident ∧
      t.platen.counter = s.platen.counter ∧ t.ribbon.kind = s.ribbon.kind ∧
      t.ribbon.tape = s.ribbon.tape ∧ t.ribbon.sensing = s.ribbon.sensing ∧
      t.spell.main = s.spell.main ∧ t.spell.supplement = s.spell.supplement := by
  simp only [State.kept, Kept.mk.injEq] at h
  exact h
end Fields

/-! ## The shared operations -/

@[simp] theorem raise_kept (k d) : (s.raise k d).kept = s.kept := by simp [State.raise]
@[simp] theorem requestTone_kept (k r) : (s.requestTone k r).kept = s.kept := by
  simp [State.requestTone]
@[simp] theorem click_kept : s.click.kept = s.kept := by simp [State.click]
@[simp] theorem putMessage_kept (a b) : (s.putMessage a b).kept = s.kept := by
  simp [State.putMessage]
@[simp] theorem emptySlot_kept : s.emptySlot.kept = s.kept := by simp [State.emptySlot]
@[simp] theorem dropWordMessage_kept (i) : (s.dropWordMessage i).kept = s.kept := by
  unfold State.dropWordMessage; repeat' split
  all_goals simp
@[simp] theorem raiseLineFull_kept (c) : (s.raiseLineFull c).kept = s.kept := by
  simp [State.raiseLineFull]
@[simp] theorem raiseLooseLine_kept (a b) : (s.raiseLooseLine a b).kept = s.kept := by
  simp [State.raiseLooseLine]
@[simp] theorem raiseLiftRefused_kept (a b) : (s.raiseLiftRefused a b).kept = s.kept := by
  simp [State.raiseLiftRefused]
@[simp] theorem noteR23_kept : s.noteR23.kept = s.kept := by simp [State.noteR23]
@[simp] theorem appendGroup_kept (es) : (s.appendGroup es).kept = s.kept := by
  unfold State.appendGroup; split <;> simp
@[simp] theorem mapCell_kept (i f) : (s.mapCell i f).kept = s.kept := by simp [State.mapCell]
@[simp] theorem setCursor_kept (c) : (s.setCursor c).kept = s.kept := by simp [State.setCursor]
@[simp] theorem setCells_kept (c) : (s.setCells c).kept = s.kept := by simp [State.setCells]
@[simp] theorem removeCell_kept (i) : (s.removeCell i).kept = s.kept := by simp [State.removeCell]
@[simp] theorem insertCell_kept (i c) : (s.insertCell i c).kept = s.kept := by
  simp [State.insertCell]
@[simp] theorem startRun_kept (k e) : (s.startRun k e).kept = s.kept := by simp [State.startRun]
@[simp] theorem closeLine_kept : s.closeLine.kept = s.kept := by simp [State.closeLine]
@[simp] theorem openLine_kept (a v) : (s.openLine a v).kept = s.kept := by simp [State.openLine]
@[simp] theorem nextLine_kept : s.nextLine.kept = s.kept := by simp [State.nextLine]
theorem replace_kept (h : s.replace = some t) : t.kept = s.kept := by
  unfold State.replace at h
  simp only at h
  repeat' split at h
  all_goals cases h
  all_goals simp
@[simp] theorem bellAfter_kept (e) : (s.bellAfter e).kept = s.kept := by
  unfold State.bellAfter
  simp only
  split
  · rw [kept_mk]
    · simp
    all_goals simp [State.requestTone]
  · rfl

/-! ## Release runs -/

@[simp] theorem releaseCell_kept (c) : (s.releaseCell c).kept = s.kept := by
  unfold State.releaseCell; simp only; repeat' split
  all_goals simp
@[simp] theorem raiseDropped_kept (a b) : (s.raiseDropped a b).kept = s.kept := by
  simp [State.raiseDropped]
@[simp] theorem appendCarry_kept (c) : (s.appendCarry c).kept = s.kept := by
  unfold State.appendCarry; simp only; repeat' split
  all_goals simp
theorem foldl_kept {α : Type} (f : State → α → State) (h : ∀ s a, (f s a).kept = s.kept)
    (l : List α) (s : State) : (l.foldl f s).kept = s.kept := by
  induction l generalizing s with
  | nil => rfl
  | cons a l ih => simp [ih, h]
@[simp] theorem appendAllCarry_kept : s.appendAllCarry.kept = s.kept := by
  have h := foldl_kept (fun s c => State.appendCarry c s) (fun s c => appendCarry_kept c)
    s.text.carry s
  simp [State.appendAllCarry, h]
@[simp] theorem endRun_kept : s.endRun.kept = s.kept := by simp [State.endRun]
@[simp] theorem returnEnding_kept : s.returnEnding.kept = s.kept := by simp [State.returnEnding]
@[simp] theorem wrapEnding_kept : s.wrapEnding.kept = s.kept := by simp [State.wrapEnding]
@[simp] theorem runStep_kept (r) : (s.runStep r).kept = s.kept := by
  unfold State.runStep; simp only
  split
  · simp
  · split <;> simp
@[simp] theorem runLoop_kept (n : Nat) : ∀ s : State, (s.runLoop n).kept = s.kept := by
  induction n with
  | zero => intro s; rfl
  | succ n ih => intro s; unfold State.runLoop; split <;> simp [ih]
@[simp] theorem noteWaiting_kept : s.noteWaiting.kept = s.kept := by simp [State.noteWaiting]
@[simp] theorem runExamine_kept : s.runExamine.kept = s.kept := by simp [State.runExamine]

/-! ## Corrections and erases -/

@[simp] theorem dropHead_kept : s.dropHead.kept = s.kept := by simp [State.dropHead]
@[simp] theorem withdraw_kept (p) : (s.withdraw p).kept = s.kept := by
  unfold State.withdraw; simp only; split <;> simp
@[simp] theorem withdrawCell_kept (c) : (s.withdrawCell c).kept = s.kept := by
  simp [State.withdrawCell]
@[simp] theorem takeBack_kept (i c) : (s.takeBack i c).kept = s.kept := by
  unfold State.takeBack; repeat' split
  all_goals simp
@[simp] theorem refuseLift_kept (a c) : (s.refuseLift a c).kept = s.kept := by
  simp [State.refuseLift]
@[simp] theorem liftOff_kept (i c) : (s.liftOff i c).kept = s.kept := by simp [State.liftOff]
@[simp] theorem reopen_kept : s.reopen.kept = s.kept := by simp [State.reopen]
@[simp] theorem withdrawReturn_kept : s.withdrawReturn.kept = s.kept := by
  simp [State.withdrawReturn]
theorem undoReturn_kept {g} (h : s.undoReturn g = some t) : t.kept = s.kept := by
  unfold State.undoReturn at h
  repeat' split at h
  all_goals cases h
  all_goals simp

/-- Neither way a correction can end touches a kept field. -/
def Correction.keeps (k : Kept) : Correction → Prop
  | .acts t => t.kept = k
  | .waits => True
  | .refused t => t.kept = k

theorem deletePending_keeps (i) : (s.deletePending i).keeps s.kept := by
  unfold State.deletePending
  split
  · simp [Correction.keeps]
  · rename_i h
    have := replace_kept h
    simp only [Correction.keeps]
    split <;> simp [this]

theorem correctAt_keeps (i c) : (s.correctAt i c).keeps s.kept := by
  unfold State.correctAt
  split
  · exact deletePending_keeps i
  all_goals (repeat' split)
  all_goals simp [Correction.keeps]
theorem correctReturned_keeps : s.correctReturned.keeps s.kept := by
  unfold State.correctReturned
  split
  · simp [Correction.keeps]
  · simp only
    split
    · trivial
    · trivial
    · split
      · trivial
      · split
        · rename_i h
          have := undoReturn_kept h
          simp [Correction.keeps, this]
        · trivial
    all_goals
      split
      · simp [Correction.keeps]
      · split
        · rename_i c _ _ _ _ _ _ t h
          have h1 := undoReturn_kept h
          have h2 := correctAt_keeps (s := t.reopen) (s.line.cells.length - 1) c
          rw [reopen_kept, h1] at h2
          exact h2
        · trivial
theorem correction_keeps : s.correction.keeps s.kept := by
  unfold State.correction
  split
  · exact correctReturned_keeps
  · split
    · simp [Correction.keeps]
    · split
      · exact correctAt_keeps _ _
      · simp [Correction.keeps]

@[simp] theorem endErase_kept : s.endErase.kept = s.kept := by simp [State.endErase]
@[simp] theorem eraseLoop_kept (n : Nat) : ∀ s : State, (s.eraseLoop n).kept = s.kept := by
  induction n with
  | zero => intro s; rfl
  | succ n ih =>
    intro s
    unfold State.eraseLoop
    split
    · rfl
    · split
      · simp
      · have h := correction_keeps (s := s)
        split <;> rename_i e <;> simp_all [Correction.keeps]
@[simp] theorem eraseContinue_kept : s.eraseContinue.kept = s.kept := by
  unfold State.eraseContinue; split <;> simp

/-! ## Spelling -/

@[simp] theorem searchRom_main (sp : Spelling) (l r n) : (sp.searchRom l r n).main = sp.main := rfl
@[simp] theorem searchRom_supplement (sp : Spelling) (l r n) :
    (sp.searchRom l r n).supplement = sp.supplement := rfl
@[simp] theorem setRecord_main (sp : Spelling) (i w) : (sp.setRecord i w).main = sp.main := rfl
@[simp] theorem setRecord_supplement (sp : Spelling) (i w) :
    (sp.setRecord i w).supplement = sp.supplement := rfl
@[simp] theorem startLookup_main (sp : Spelling) : sp.startLookup.main = sp.main := by
  unfold Spelling.startLookup; split <;> simp
@[simp] theorem startLookup_supplement (sp : Spelling) :
    sp.startLookup.supplement = sp.supplement := by
  unfold Spelling.startLookup; split <;> simp
@[simp] theorem cancelRecord_kept (r) : (s.cancelRecord r).kept = s.kept := by
  unfold State.cancelRecord; simp only; split <;> simp
@[simp] theorem cancelBroken_kept (b) : (s.cancelBroken b).kept = s.kept := by
  simp only [State.cancelBroken]
  exact foldl_kept _ (fun s r => cancelRecord_kept r) _ _
@[simp] theorem raiseSpell_kept (a r) : (s.raiseSpell a r).kept = s.kept := by
  simp [State.raiseSpell]
@[simp] theorem recordRun_kept (r) : (s.recordRun r).kept = s.kept := by
  unfold State.recordRun
  split
  · rfl
  · simp only
    split
    · simp
    · split
      · rw [kept_mk] <;> simp
      · simp
@[simp] theorem recordAll_kept : s.recordAll.kept = s.kept := by
  simp only [State.recordAll]
  exact foldl_kept _ (fun s r => recordRun_kept r) _ _
@[simp] theorem spellingStep_kept (b c) : (s.spellingStep b c).kept = s.kept := by
  unfold State.spellingStep; split <;> simp

/-- The text settling keeps the kept fields. -/
@[simp] theorem textSettle_kept (l b) : (s.textSettle l b).kept = s.kept := by
  simp [State.textSettle]

/-! ## The Print Sequencer -/

@[simp] theorem setStage_kept (x) : (s.setStage x).kept = s.kept := by simp [State.setStage]
@[simp] theorem takeFault_kept (c) : (s.takeFault c).kept = s.kept := by
  unfold State.takeFault; simp only; split <;> simp
@[simp] theorem fireReport_kept (e) : (s.fireReport e).kept = s.kept := by
  unfold State.fireReport; split <;> simp
@[simp] theorem liftDone_kept (i c) : (s.liftDone i c).kept = s.kept := by
  unfold State.liftDone; repeat' split
  all_goals simp
@[simp] theorem completionReport_kept (e) : (s.completionReport e).kept = s.kept := by
  unfold State.completionReport; repeat' split
  all_goals simp
@[simp] theorem completeHead_kept : s.completeHead.kept = s.kept := by
  unfold State.completeHead; split <;> simp
@[simp] theorem beginFire_kept (e n) : (s.beginFire e n).kept = s.kept := by simp [State.beginFire]
@[simp] theorem tryFire_kept : s.tryFire.kept = s.kept := by
  unfold State.tryFire; repeat' split
  all_goals simp
@[simp] theorem beginHeatWait_kept (e) : (s.beginHeatWait e).kept = s.kept := by
  simp [State.beginHeatWait]
@[simp] theorem startCarrier_kept (x) : (s.startCarrier x).1.kept = s.kept := by
  unfold State.startCarrier; repeat' split
  all_goals simp
@[simp] theorem startWheel_kept (p) : (s.startWheel p).kept = s.kept := by
  unfold State.startWheel; simp only; split <;> simp
@[simp] theorem afterPlaten_pause (q : Sequencer) (t u) : (q.afterPlaten t u).pause = q.pause := by
  cases u <;> rfl
@[simp] theorem afterPlaten_startup (q : Sequencer) (t u) :
    (q.afterPlaten t u).startup = q.startup := by
  cases u <;> rfl
@[simp] theorem startPlaten_kept (t u) : (s.startPlaten t u).kept = s.kept := by
  unfold State.startPlaten; split <;> simp
@[simp] theorem positionEnd_kept (e) : (s.positionEnd e).kept = s.kept := by
  unfold State.positionEnd; repeat' split
  all_goals simp
@[simp] theorem moveAcross_kept (e) : (s.moveAcross e).kept = s.kept := by
  unfold State.moveAcross; simp only; repeat' split
  all_goals simp
@[simp] theorem beginMotions_kept (e t) : (s.beginMotions e t).kept = s.kept := by
  unfold State.beginMotions; simp only; repeat' split
  all_goals simp
@[simp] theorem beginPosition_kept (e) : (s.beginPosition e).kept = s.kept := by
  simp [State.beginPosition]
@[simp] theorem advanceDone_kept : s.advanceDone.kept = s.kept := by
  unfold State.advanceDone; simp only; split <;> simp
@[simp] theorem beginAdvance_kept (e) : (s.beginAdvance e).kept = s.kept := by
  unfold State.beginAdvance; simp only; split <;> simp
@[simp] theorem liftWithdrawnCell_kept (c) : (s.liftWithdrawnCell c).kept = s.kept := by
  unfold State.liftWithdrawnCell; split <;> simp
@[simp] theorem withdrawHeadLift_kept (e) : (s.withdrawHeadLift e).kept = s.kept := by
  simp [State.withdrawHeadLift]
@[simp] theorem holdLift_kept : s.holdLift.kept = s.kept := by simp [State.holdLift]
@[simp] theorem beginHead_kept (e) : (s.beginHead e).kept = s.kept := by
  unfold State.beginHead; repeat' split
  all_goals simp
@[simp] theorem setMech_kept (m) : (s.setMech m).kept = s.kept := by simp [State.setMech]
@[simp] theorem storeCauses_kept : s.storeCauses.kept = s.kept := by simp [State.storeCauses]
@[simp] theorem toHalted_kept : s.toHalted.kept = s.kept := by
  unfold State.toHalted; simp only; split <;> simp
@[simp] theorem decideClear_kept : s.decideClear.kept = s.kept := by
  unfold State.decideClear; simp only; repeat' split
  all_goals simp
@[simp] theorem decideState_kept : s.decideState.kept = s.kept := by
  unfold State.decideState; repeat' split
  all_goals simp
@[simp] theorem seqLoop_kept (n : Nat) : ∀ s : State, (s.seqLoop n).kept = s.kept := by
  induction n with
  | zero => intro s; rfl
  | succ n ih => intro s; unfold State.seqLoop; simp only; split <;> simp [ih]
/-- The Print Sequencer's decision keeps the kept fields. -/
@[simp] theorem sequence_kept : s.sequence.kept = s.kept := by simp [State.sequence]

/-! ## The end of an event -/

/-- The last part of an event changes the display, the transmitter with the answers that wait for it, and
the Notice Table, and nothing else. -/
theorem finish_eq (s o : State) : ∃ (d : Display) (tr : Transmitter) (sa : Option (List Byte))
    (ba : Option Byte) (n : NoticeTable),
    s.finish o = { s with
      display := d, notices := n,
      link := { s.link with transmitter := tr, slotAnswer := sa, busyAnswer := ba } } := by
  have h1 : ∃ d, s.renderIf o = { s with display := d } := by
    unfold State.renderIf
    split
    · split <;> exact ⟨_, rfl⟩
    · exact ⟨_, rfl⟩
  obtain ⟨d, hd⟩ := h1
  unfold State.finish
  rw [hd]
  unfold State.transmit
  split
  · unfold State.chooseFrame
    repeat' split
    all_goals exact ⟨_, _, _, _, _, rfl⟩
  · exact ⟨_, _, _, _, _, rfl⟩

/-- What `State.finish` leaves as it was. -/
theorem finish_same (s o : State) :
    (s.finish o).pending = s.pending ∧ (s.finish o).power = s.power ∧
      (s.finish o).keys = s.keys ∧ (s.finish o).line = s.line ∧ (s.finish o).text = s.text ∧
      (s.finish o).settings = s.settings ∧ (s.finish o).strikes = s.strikes ∧
      (s.finish o).seq = s.seq ∧ (s.finish o).carrier = s.carrier ∧
      (s.finish o).wheel = s.wheel ∧ (s.finish o).platen = s.platen ∧
      (s.finish o).hammer = s.hammer ∧ (s.finish o).ribbon = s.ribbon ∧
      (s.finish o).inputs = s.inputs ∧ (s.finish o).spell = s.spell ∧
      (s.finish o).tone = s.tone ∧ (s.finish o).retained = s.retained := by
  obtain ⟨d, tr, sa, ba, n, h⟩ := finish_eq s o
  rw [h]
  simp

/-- The part of `Kept` that the end of an event leaves as it was: all but the link's transmitter and the
answers that wait for it. -/
theorem conclude_kept (s o : State) : ∃ (tr : Transmitter) (sa : Option (List Byte))
    (ba : Option Byte),
    (s.conclude o).kept = { s.kept with
      link := { s.link with transmitter := tr, slotAnswer := sa, busyAnswer := ba } } := by
  have hk : ((s.textSettle o.line o.spell.endClosed).sequence).kept = s.kept := by simp
  have hl : ((s.textSettle o.line o.spell.endClosed).sequence).link = s.link :=
    congrArg Kept.link hk
  obtain ⟨d, tr, sa, ba, n, h⟩ :=
    finish_eq ((s.textSettle o.line o.spell.endClosed).sequence) o
  refine ⟨tr, sa, ba, ?_⟩
  unfold State.conclude
  rw [h, ← hk, ← hl]
  rfl

/-! ## The wheel change -/

@[simp] theorem dropTrailing_kept (n : Nat) : ∀ s : State, (s.dropTrailing n).kept = s.kept := by
  induction n with
  | zero => intro s; rfl
  | succ n ih =>
    intro s; unfold State.dropTrailing; repeat' split
    all_goals simp [ih]
@[simp] theorem placeWhole_kept : s.placeWhole.kept = s.kept := by
  unfold State.placeWhole; simp only; split <;> simp
@[simp] theorem returnRegion_kept (i) : (s.returnRegion i).kept = s.kept := by
  unfold State.returnRegion; simp only; repeat' split
  all_goals simp
@[simp] theorem undoOutside_kept (c) : (s.undoOutside c).kept = s.kept := by
  unfold State.undoOutside; repeat' split
  all_goals simp
@[simp] theorem dropIfMissing_kept (c) : (s.dropIfMissing c).kept = s.kept := by
  unfold State.dropIfMissing; repeat' split
  all_goals simp
@[simp] theorem replaceWheel_kept : s.replaceWheel.kept = s.kept := by simp [State.replaceWheel]
@[simp] theorem dropPastEnd_kept (n : Nat) : ∀ s : State, (s.dropPastEnd n).kept = s.kept := by
  induction n with
  | zero => intro s; rfl
  | succ n ih =>
    intro s; unfold State.dropPastEnd; repeat' split
    all_goals simp [ih]
/-- The wheel change procedure keeps the kept fields. -/
@[simp] theorem wheelChange_kept : s.wheelChange.kept = s.kept := by
  have h1 := fun (l : List Cell) (u : State) =>
    foldl_kept (fun t c => State.undoOutside c t) (fun t c => undoOutside_kept c) l u
  have h2 := fun (l : List Cell) (u : State) =>
    foldl_kept (fun t c => State.dropIfMissing c t) (fun t c => dropIfMissing_kept c) l u
  unfold State.wheelChange; simp only
  split <;> simp [h1, h2]

end Sys2Proof.Machine
end

