-- ==== Sys2Proof/Laws/State.lean ====
section
/-! SUPPORT. One lemma per field per update of State: what each small update leaves and what it writes.
Every one is true by unfolding, so that no later proof unfolds a record update. -/

namespace Sys2Proof.Machine

variable (s : State)

/-! ## State.setStage -/

@[simp] theorem State.setStage_pending (st : Option Stage) :
    (s.setStage st).pending = s.pending := rfl
@[simp] theorem State.setStage_power (st : Option Stage) : (s.setStage st).power = s.power := rfl
@[simp] theorem State.setStage_link (st : Option Stage) : (s.setStage st).link = s.link := rfl
@[simp] theorem State.setStage_keys (st : Option Stage) : (s.setStage st).keys = s.keys := rfl
@[simp] theorem State.setStage_line (st : Option Stage) : (s.setStage st).line = s.line := rfl
@[simp] theorem State.setStage_text (st : Option Stage) : (s.setStage st).text = s.text := rfl
@[simp] theorem State.setStage_settings (st : Option Stage) :
    (s.setStage st).settings = s.settings := rfl
@[simp] theorem State.setStage_strikes (st : Option Stage) :
    (s.setStage st).strikes = s.strikes := rfl
@[simp] theorem State.setStage_seq (st : Option Stage) :
    (s.setStage st).seq = { s.seq with stage := st } := rfl
@[simp] theorem State.setStage_carrier (st : Option Stage) :
    (s.setStage st).carrier = s.carrier := rfl
@[simp] theorem State.setStage_wheel (st : Option Stage) : (s.setStage st).wheel = s.wheel := rfl
@[simp] theorem State.setStage_platen (st : Option Stage) : (s.setStage st).platen = s.platen := rfl
@[simp] theorem State.setStage_hammer (st : Option Stage) : (s.setStage st).hammer = s.hammer := rfl
@[simp] theorem State.setStage_ribbon (st : Option Stage) : (s.setStage st).ribbon = s.ribbon := rfl
@[simp] theorem State.setStage_inputs (st : Option Stage) : (s.setStage st).inputs = s.inputs := rfl
@[simp] theorem State.setStage_spell (st : Option Stage) : (s.setStage st).spell = s.spell := rfl
@[simp] theorem State.setStage_display (st : Option Stage) :
    (s.setStage st).display = s.display := rfl
@[simp] theorem State.setStage_tone (st : Option Stage) : (s.setStage st).tone = s.tone := rfl
@[simp] theorem State.setStage_notices (st : Option Stage) :
    (s.setStage st).notices = s.notices := rfl
@[simp] theorem State.setStage_retained (st : Option Stage) :
    (s.setStage st).retained = s.retained := rfl

/-! ## State.setMech -/

@[simp] theorem State.setMech_pending (m : Mech) : (s.setMech m).pending = s.pending := rfl
@[simp] theorem State.setMech_power (m : Mech) : (s.setMech m).power = s.power := rfl
@[simp] theorem State.setMech_link (m : Mech) : (s.setMech m).link = s.link := rfl
@[simp] theorem State.setMech_keys (m : Mech) : (s.setMech m).keys = s.keys := rfl
@[simp] theorem State.setMech_line (m : Mech) : (s.setMech m).line = s.line := rfl
@[simp] theorem State.setMech_text (m : Mech) : (s.setMech m).text = s.text := rfl
@[simp] theorem State.setMech_settings (m : Mech) : (s.setMech m).settings = s.settings := rfl
@[simp] theorem State.setMech_strikes (m : Mech) : (s.setMech m).strikes = s.strikes := rfl
@[simp] theorem State.setMech_seq (m : Mech) : (s.setMech m).seq = { s.seq with mech := m } := rfl
@[simp] theorem State.setMech_carrier (m : Mech) : (s.setMech m).carrier = s.carrier := rfl
@[simp] theorem State.setMech_wheel (m : Mech) : (s.setMech m).wheel = s.wheel := rfl
@[simp] theorem State.setMech_platen (m : Mech) : (s.setMech m).platen = s.platen := rfl
@[simp] theorem State.setMech_hammer (m : Mech) : (s.setMech m).hammer = s.hammer := rfl
@[simp] theorem State.setMech_ribbon (m : Mech) : (s.setMech m).ribbon = s.ribbon := rfl
@[simp] theorem State.setMech_inputs (m : Mech) : (s.setMech m).inputs = s.inputs := rfl
@[simp] theorem State.setMech_spell (m : Mech) : (s.setMech m).spell = s.spell := rfl
@[simp] theorem State.setMech_display (m : Mech) :
    (s.setMech m).display = { s.display with told := s.display.told || m != s.seq.mech } := rfl
@[simp] theorem State.setMech_tone (m : Mech) : (s.setMech m).tone = s.tone := rfl
@[simp] theorem State.setMech_notices (m : Mech) : (s.setMech m).notices = s.notices := rfl
@[simp] theorem State.setMech_retained (m : Mech) : (s.setMech m).retained = s.retained := rfl

/-! ## State.storeCauses -/

@[simp] theorem State.storeCauses_pending : s.storeCauses.pending = s.pending := rfl
@[simp] theorem State.storeCauses_power : s.storeCauses.power = s.power := rfl
@[simp] theorem State.storeCauses_link : s.storeCauses.link = s.link := rfl
@[simp] theorem State.storeCauses_keys : s.storeCauses.keys = s.keys := rfl
@[simp] theorem State.storeCauses_line : s.storeCauses.line = s.line := rfl
@[simp] theorem State.storeCauses_text : s.storeCauses.text = s.text := rfl
@[simp] theorem State.storeCauses_settings : s.storeCauses.settings = s.settings := rfl
@[simp] theorem State.storeCauses_strikes : s.storeCauses.strikes = s.strikes := rfl
@[simp] theorem State.storeCauses_seq :
    s.storeCauses.seq = { s.seq with causes := s.causesNow } := rfl
@[simp] theorem State.storeCauses_carrier : s.storeCauses.carrier = s.carrier := rfl
@[simp] theorem State.storeCauses_wheel : s.storeCauses.wheel = s.wheel := rfl
@[simp] theorem State.storeCauses_platen : s.storeCauses.platen = s.platen := rfl
@[simp] theorem State.storeCauses_hammer : s.storeCauses.hammer = s.hammer := rfl
@[simp] theorem State.storeCauses_ribbon : s.storeCauses.ribbon = s.ribbon := rfl
@[simp] theorem State.storeCauses_inputs : s.storeCauses.inputs = s.inputs := rfl
@[simp] theorem State.storeCauses_spell : s.storeCauses.spell = s.spell := rfl
@[simp] theorem State.storeCauses_display :
    s.storeCauses.display = { s.display with
      told := s.display.told || s.causesNow != s.seq.causes } := rfl
@[simp] theorem State.storeCauses_tone : s.storeCauses.tone = s.tone := rfl
@[simp] theorem State.storeCauses_notices : s.storeCauses.notices = s.notices := rfl
@[simp] theorem State.storeCauses_retained : s.storeCauses.retained = s.retained := rfl

/-! ## State.stopCarrier -/

@[simp] theorem State.stopCarrier_pending (d : Driven) :
    (s.stopCarrier d).pending = s.pending := rfl
@[simp] theorem State.stopCarrier_power (d : Driven) : (s.stopCarrier d).power = s.power := rfl
@[simp] theorem State.stopCarrier_link (d : Driven) : (s.stopCarrier d).link = s.link := rfl
@[simp] theorem State.stopCarrier_keys (d : Driven) : (s.stopCarrier d).keys = s.keys := rfl
@[simp] theorem State.stopCarrier_line (d : Driven) : (s.stopCarrier d).line = s.line := rfl
@[simp] theorem State.stopCarrier_text (d : Driven) : (s.stopCarrier d).text = s.text := rfl
@[simp] theorem State.stopCarrier_settings (d : Driven) :
    (s.stopCarrier d).settings = s.settings := rfl
@[simp] theorem State.stopCarrier_strikes (d : Driven) :
    (s.stopCarrier d).strikes = s.strikes := rfl
@[simp] theorem State.stopCarrier_seq (d : Driven) : (s.stopCarrier d).seq = s.seq := rfl
@[simp] theorem State.stopCarrier_wheel (d : Driven) : (s.stopCarrier d).wheel = s.wheel := rfl
@[simp] theorem State.stopCarrier_platen (d : Driven) : (s.stopCarrier d).platen = s.platen := rfl
@[simp] theorem State.stopCarrier_hammer (d : Driven) : (s.stopCarrier d).hammer = s.hammer := rfl
@[simp] theorem State.stopCarrier_ribbon (d : Driven) : (s.stopCarrier d).ribbon = s.ribbon := rfl
@[simp] theorem State.stopCarrier_inputs (d : Driven) : (s.stopCarrier d).inputs = s.inputs := rfl
@[simp] theorem State.stopCarrier_spell (d : Driven) : (s.stopCarrier d).spell = s.spell := rfl
@[simp] theorem State.stopCarrier_display (d : Driven) :
    (s.stopCarrier d).display = s.display := rfl
@[simp] theorem State.stopCarrier_tone (d : Driven) : (s.stopCarrier d).tone = s.tone := rfl
@[simp] theorem State.stopCarrier_notices (d : Driven) :
    (s.stopCarrier d).notices = s.notices := rfl
@[simp] theorem State.stopCarrier_retained (d : Driven) :
    (s.stopCarrier d).retained = s.retained := rfl

/-! ## State.mapStartup -/

@[simp] theorem State.mapStartup_pending (f : StartUp → StartUp) :
    (s.mapStartup f).pending = s.pending := rfl
@[simp] theorem State.mapStartup_power (f : StartUp → StartUp) :
    (s.mapStartup f).power = s.power := rfl
@[simp] theorem State.mapStartup_link (f : StartUp → StartUp) :
    (s.mapStartup f).link = s.link := rfl
@[simp] theorem State.mapStartup_keys (f : StartUp → StartUp) :
    (s.mapStartup f).keys = s.keys := rfl
@[simp] theorem State.mapStartup_line (f : StartUp → StartUp) :
    (s.mapStartup f).line = s.line := rfl
@[simp] theorem State.mapStartup_text (f : StartUp → StartUp) :
    (s.mapStartup f).text = s.text := rfl
@[simp] theorem State.mapStartup_settings (f : StartUp → StartUp) :
    (s.mapStartup f).settings = s.settings := rfl
@[simp] theorem State.mapStartup_strikes (f : StartUp → StartUp) :
    (s.mapStartup f).strikes = s.strikes := rfl
@[simp] theorem State.mapStartup_seq (f : StartUp → StartUp) :
    (s.mapStartup f).seq = { s.seq with startup := s.seq.startup.map f } := rfl
@[simp] theorem State.mapStartup_carrier (f : StartUp → StartUp) :
    (s.mapStartup f).carrier = s.carrier := rfl
@[simp] theorem State.mapStartup_wheel (f : StartUp → StartUp) :
    (s.mapStartup f).wheel = s.wheel := rfl
@[simp] theorem State.mapStartup_platen (f : StartUp → StartUp) :
    (s.mapStartup f).platen = s.platen := rfl
@[simp] theorem State.mapStartup_hammer (f : StartUp → StartUp) :
    (s.mapStartup f).hammer = s.hammer := rfl
@[simp] theorem State.mapStartup_ribbon (f : StartUp → StartUp) :
    (s.mapStartup f).ribbon = s.ribbon := rfl
@[simp] theorem State.mapStartup_inputs (f : StartUp → StartUp) :
    (s.mapStartup f).inputs = s.inputs := rfl
@[simp] theorem State.mapStartup_spell (f : StartUp → StartUp) :
    (s.mapStartup f).spell = s.spell := rfl
@[simp] theorem State.mapStartup_display (f : StartUp → StartUp) :
    (s.mapStartup f).display = s.display := rfl
@[simp] theorem State.mapStartup_tone (f : StartUp → StartUp) :
    (s.mapStartup f).tone = s.tone := rfl
@[simp] theorem State.mapStartup_notices (f : StartUp → StartUp) :
    (s.mapStartup f).notices = s.notices := rfl
@[simp] theorem State.mapStartup_retained (f : StartUp → StartUp) :
    (s.mapStartup f).retained = s.retained := rfl

/-! ## State.raise -/

@[simp] theorem State.raise_pending (k : NoticeKind) (d : List Byte) :
    (s.raise k d).pending = s.pending := rfl
@[simp] theorem State.raise_power (k : NoticeKind) (d : List Byte) :
    (s.raise k d).power = s.power := rfl
@[simp] theorem State.raise_link (k : NoticeKind) (d : List Byte) :
    (s.raise k d).link = s.link := rfl
@[simp] theorem State.raise_keys (k : NoticeKind) (d : List Byte) :
    (s.raise k d).keys = s.keys := rfl
@[simp] theorem State.raise_line (k : NoticeKind) (d : List Byte) :
    (s.raise k d).line = s.line := rfl
@[simp] theorem State.raise_text (k : NoticeKind) (d : List Byte) :
    (s.raise k d).text = s.text := rfl
@[simp] theorem State.raise_settings (k : NoticeKind) (d : List Byte) :
    (s.raise k d).settings = s.settings := rfl
@[simp] theorem State.raise_strikes (k : NoticeKind) (d : List Byte) :
    (s.raise k d).strikes = s.strikes := rfl
@[simp] theorem State.raise_seq (k : NoticeKind) (d : List Byte) : (s.raise k d).seq = s.seq := rfl
@[simp] theorem State.raise_carrier (k : NoticeKind) (d : List Byte) :
    (s.raise k d).carrier = s.carrier := rfl
@[simp] theorem State.raise_wheel (k : NoticeKind) (d : List Byte) :
    (s.raise k d).wheel = s.wheel := rfl
@[simp] theorem State.raise_platen (k : NoticeKind) (d : List Byte) :
    (s.raise k d).platen = s.platen := rfl
@[simp] theorem State.raise_hammer (k : NoticeKind) (d : List Byte) :
    (s.raise k d).hammer = s.hammer := rfl
@[simp] theorem State.raise_ribbon (k : NoticeKind) (d : List Byte) :
    (s.raise k d).ribbon = s.ribbon := rfl
@[simp] theorem State.raise_inputs (k : NoticeKind) (d : List Byte) :
    (s.raise k d).inputs = s.inputs := rfl
@[simp] theorem State.raise_spell (k : NoticeKind) (d : List Byte) :
    (s.raise k d).spell = s.spell := rfl
@[simp] theorem State.raise_display (k : NoticeKind) (d : List Byte) :
    (s.raise k d).display = s.display := rfl
@[simp] theorem State.raise_tone (k : NoticeKind) (d : List Byte) :
    (s.raise k d).tone = s.tone := rfl
@[simp] theorem State.raise_notices (k : NoticeKind) (d : List Byte) :
    (s.raise k d).notices = { s.notices with
      rows := s.notices.rows.setRow k ((s.notices.rows.row k).occur d) } := rfl
@[simp] theorem State.raise_retained (k : NoticeKind) (d : List Byte) :
    (s.raise k d).retained = s.retained := rfl

/-! ## State.requestTone -/

@[simp] theorem State.requestTone_pending (k : ToneKind) (r : Bool) :
    (s.requestTone k r).pending = s.pending := rfl
@[simp] theorem State.requestTone_power (k : ToneKind) (r : Bool) :
    (s.requestTone k r).power = s.power := rfl
@[simp] theorem State.requestTone_link (k : ToneKind) (r : Bool) :
    (s.requestTone k r).link = s.link := rfl
@[simp] theorem State.requestTone_keys (k : ToneKind) (r : Bool) :
    (s.requestTone k r).keys = s.keys := rfl
@[simp] theorem State.requestTone_line (k : ToneKind) (r : Bool) :
    (s.requestTone k r).line = s.line := rfl
@[simp] theorem State.requestTone_text (k : ToneKind) (r : Bool) :
    (s.requestTone k r).text = s.text := rfl
@[simp] theorem State.requestTone_settings (k : ToneKind) (r : Bool) :
    (s.requestTone k r).settings = s.settings := rfl
@[simp] theorem State.requestTone_strikes (k : ToneKind) (r : Bool) :
    (s.requestTone k r).strikes = s.strikes := rfl
@[simp] theorem State.requestTone_seq (k : ToneKind) (r : Bool) :
    (s.requestTone k r).seq = s.seq := rfl
@[simp] theorem State.requestTone_carrier (k : ToneKind) (r : Bool) :
    (s.requestTone k r).carrier = s.carrier := rfl
@[simp] theorem State.requestTone_wheel (k : ToneKind) (r : Bool) :
    (s.requestTone k r).wheel = s.wheel := rfl
@[simp] theorem State.requestTone_platen (k : ToneKind) (r : Bool) :
    (s.requestTone k r).platen = s.platen := rfl
@[simp] theorem State.requestTone_hammer (k : ToneKind) (r : Bool) :
    (s.requestTone k r).hammer = s.hammer := rfl
@[simp] theorem State.requestTone_ribbon (k : ToneKind) (r : Bool) :
    (s.requestTone k r).ribbon = s.ribbon := rfl
@[simp] theorem State.requestTone_inputs (k : ToneKind) (r : Bool) :
    (s.requestTone k r).inputs = s.inputs := rfl
@[simp] theorem State.requestTone_spell (k : ToneKind) (r : Bool) :
    (s.requestTone k r).spell = s.spell := rfl
@[simp] theorem State.requestTone_display (k : ToneKind) (r : Bool) :
    (s.requestTone k r).display = s.display := rfl
@[simp] theorem State.requestTone_tone (k : ToneKind) (r : Bool) :
    (s.requestTone k r).tone = s.tone.request s.settings.volume k r := rfl
@[simp] theorem State.requestTone_notices (k : ToneKind) (r : Bool) :
    (s.requestTone k r).notices = s.notices := rfl
@[simp] theorem State.requestTone_retained (k : ToneKind) (r : Bool) :
    (s.requestTone k r).retained = s.retained := rfl

/-! ## State.noteR23 -/

@[simp] theorem State.noteR23_pending : s.noteR23.pending = s.pending := rfl
@[simp] theorem State.noteR23_power : s.noteR23.power = s.power := rfl
@[simp] theorem State.noteR23_link : s.noteR23.link = s.link := rfl
@[simp] theorem State.noteR23_keys : s.noteR23.keys = s.keys := rfl
@[simp] theorem State.noteR23_line : s.noteR23.line = s.line := rfl
@[simp] theorem State.noteR23_text :
    s.noteR23.text = { s.text with headDue := true, eraseDue := true } := rfl
@[simp] theorem State.noteR23_settings : s.noteR23.settings = s.settings := rfl
@[simp] theorem State.noteR23_strikes : s.noteR23.strikes = s.strikes := rfl
@[simp] theorem State.noteR23_seq : s.noteR23.seq = s.seq := rfl
@[simp] theorem State.noteR23_carrier : s.noteR23.carrier = s.carrier := rfl
@[simp] theorem State.noteR23_wheel : s.noteR23.wheel = s.wheel := rfl
@[simp] theorem State.noteR23_platen : s.noteR23.platen = s.platen := rfl
@[simp] theorem State.noteR23_hammer : s.noteR23.hammer = s.hammer := rfl
@[simp] theorem State.noteR23_ribbon : s.noteR23.ribbon = s.ribbon := rfl
@[simp] theorem State.noteR23_inputs : s.noteR23.inputs = s.inputs := rfl
@[simp] theorem State.noteR23_spell : s.noteR23.spell = s.spell := rfl
@[simp] theorem State.noteR23_display : s.noteR23.display = s.display := rfl
@[simp] theorem State.noteR23_tone : s.noteR23.tone = s.tone := rfl
@[simp] theorem State.noteR23_notices : s.noteR23.notices = s.notices := rfl
@[simp] theorem State.noteR23_retained : s.noteR23.retained = s.retained := rfl

/-! ## State.keyStays -/

@[simp] theorem State.keyStays_pending : s.keyStays.pending = s.pending := rfl
@[simp] theorem State.keyStays_power : s.keyStays.power = s.power := rfl
@[simp] theorem State.keyStays_link : s.keyStays.link = s.link := rfl
@[simp] theorem State.keyStays_keys : s.keyStays.keys = s.keys := rfl
@[simp] theorem State.keyStays_line : s.keyStays.line = s.line := rfl
@[simp] theorem State.keyStays_text : s.keyStays.text = { s.text with headDue := false } := rfl
@[simp] theorem State.keyStays_settings : s.keyStays.settings = s.settings := rfl
@[simp] theorem State.keyStays_strikes : s.keyStays.strikes = s.strikes := rfl
@[simp] theorem State.keyStays_seq : s.keyStays.seq = s.seq := rfl
@[simp] theorem State.keyStays_carrier : s.keyStays.carrier = s.carrier := rfl
@[simp] theorem State.keyStays_wheel : s.keyStays.wheel = s.wheel := rfl
@[simp] theorem State.keyStays_platen : s.keyStays.platen = s.platen := rfl
@[simp] theorem State.keyStays_hammer : s.keyStays.hammer = s.hammer := rfl
@[simp] theorem State.keyStays_ribbon : s.keyStays.ribbon = s.ribbon := rfl
@[simp] theorem State.keyStays_inputs : s.keyStays.inputs = s.inputs := rfl
@[simp] theorem State.keyStays_spell : s.keyStays.spell = s.spell := rfl
@[simp] theorem State.keyStays_display : s.keyStays.display = s.display := rfl
@[simp] theorem State.keyStays_tone : s.keyStays.tone = s.tone := rfl
@[simp] theorem State.keyStays_notices : s.keyStays.notices = s.notices := rfl
@[simp] theorem State.keyStays_retained : s.keyStays.retained = s.retained := rfl

/-! ## State.setCursor -/

@[simp] theorem State.setCursor_pending (c : Nat) : (s.setCursor c).pending = s.pending := rfl
@[simp] theorem State.setCursor_power (c : Nat) : (s.setCursor c).power = s.power := rfl
@[simp] theorem State.setCursor_link (c : Nat) : (s.setCursor c).link = s.link := rfl
@[simp] theorem State.setCursor_keys (c : Nat) : (s.setCursor c).keys = s.keys := rfl
@[simp] theorem State.setCursor_line (c : Nat) :
    (s.setCursor c).line = { s.line with cursor := c } := rfl
@[simp] theorem State.setCursor_text (c : Nat) : (s.setCursor c).text = s.text := rfl
@[simp] theorem State.setCursor_settings (c : Nat) : (s.setCursor c).settings = s.settings := rfl
@[simp] theorem State.setCursor_strikes (c : Nat) : (s.setCursor c).strikes = s.strikes := rfl
@[simp] theorem State.setCursor_seq (c : Nat) : (s.setCursor c).seq = s.seq := rfl
@[simp] theorem State.setCursor_carrier (c : Nat) : (s.setCursor c).carrier = s.carrier := rfl
@[simp] theorem State.setCursor_wheel (c : Nat) : (s.setCursor c).wheel = s.wheel := rfl
@[simp] theorem State.setCursor_platen (c : Nat) : (s.setCursor c).platen = s.platen := rfl
@[simp] theorem State.setCursor_hammer (c : Nat) : (s.setCursor c).hammer = s.hammer := rfl
@[simp] theorem State.setCursor_ribbon (c : Nat) : (s.setCursor c).ribbon = s.ribbon := rfl
@[simp] theorem State.setCursor_inputs (c : Nat) : (s.setCursor c).inputs = s.inputs := rfl
@[simp] theorem State.setCursor_spell (c : Nat) : (s.setCursor c).spell = s.spell := rfl
@[simp] theorem State.setCursor_display (c : Nat) :
    (s.setCursor c).display = s.display.hearCursor s.line.cursor c := rfl
@[simp] theorem State.setCursor_tone (c : Nat) : (s.setCursor c).tone = s.tone := rfl
@[simp] theorem State.setCursor_notices (c : Nat) : (s.setCursor c).notices = s.notices := rfl
@[simp] theorem State.setCursor_retained (c : Nat) : (s.setCursor c).retained = s.retained := rfl

/-! ## State.removeCell -/

@[simp] theorem State.removeCell_pending (i : Nat) : (s.removeCell i).pending = s.pending := rfl
@[simp] theorem State.removeCell_power (i : Nat) : (s.removeCell i).power = s.power := rfl
@[simp] theorem State.removeCell_link (i : Nat) : (s.removeCell i).link = s.link := rfl
@[simp] theorem State.removeCell_keys (i : Nat) : (s.removeCell i).keys = s.keys := rfl
@[simp] theorem State.removeCell_settings (i : Nat) : (s.removeCell i).settings = s.settings := rfl
@[simp] theorem State.removeCell_strikes (i : Nat) : (s.removeCell i).strikes = s.strikes := rfl
@[simp] theorem State.removeCell_seq (i : Nat) : (s.removeCell i).seq = s.seq := rfl
@[simp] theorem State.removeCell_carrier (i : Nat) : (s.removeCell i).carrier = s.carrier := rfl
@[simp] theorem State.removeCell_wheel (i : Nat) : (s.removeCell i).wheel = s.wheel := rfl
@[simp] theorem State.removeCell_platen (i : Nat) : (s.removeCell i).platen = s.platen := rfl
@[simp] theorem State.removeCell_hammer (i : Nat) : (s.removeCell i).hammer = s.hammer := rfl
@[simp] theorem State.removeCell_ribbon (i : Nat) : (s.removeCell i).ribbon = s.ribbon := rfl
@[simp] theorem State.removeCell_inputs (i : Nat) : (s.removeCell i).inputs = s.inputs := rfl
@[simp] theorem State.removeCell_spell (i : Nat) : (s.removeCell i).spell = s.spell := rfl
@[simp] theorem State.removeCell_display (i : Nat) :
    (s.removeCell i).display = s.display.hearCursor s.line.cursor (below i s.line.cursor) := rfl
@[simp] theorem State.removeCell_tone (i : Nat) : (s.removeCell i).tone = s.tone := rfl
@[simp] theorem State.removeCell_notices (i : Nat) : (s.removeCell i).notices = s.notices := rfl
@[simp] theorem State.removeCell_retained (i : Nat) : (s.removeCell i).retained = s.retained := rfl

/-! ## State.insertCell -/

@[simp] theorem State.insertCell_pending (i : Nat) (c : Cell) :
    (s.insertCell i c).pending = s.pending := rfl
@[simp] theorem State.insertCell_power (i : Nat) (c : Cell) :
    (s.insertCell i c).power = s.power := rfl
@[simp] theorem State.insertCell_link (i : Nat) (c : Cell) : (s.insertCell i c).link = s.link := rfl
@[simp] theorem State.insertCell_keys (i : Nat) (c : Cell) : (s.insertCell i c).keys = s.keys := rfl
@[simp] theorem State.insertCell_text (i : Nat) (c : Cell) :
    (s.insertCell i c).text = { s.text with nextCell := s.text.nextCell + 1 } := rfl
@[simp] theorem State.insertCell_settings (i : Nat) (c : Cell) :
    (s.insertCell i c).settings = s.settings := rfl
@[simp] theorem State.insertCell_strikes (i : Nat) (c : Cell) :
    (s.insertCell i c).strikes = s.strikes := rfl
@[simp] theorem State.insertCell_seq (i : Nat) (c : Cell) : (s.insertCell i c).seq = s.seq := rfl
@[simp] theorem State.insertCell_carrier (i : Nat) (c : Cell) :
    (s.insertCell i c).carrier = s.carrier := rfl
@[simp] theorem State.insertCell_wheel (i : Nat) (c : Cell) :
    (s.insertCell i c).wheel = s.wheel := rfl
@[simp] theorem State.insertCell_platen (i : Nat) (c : Cell) :
    (s.insertCell i c).platen = s.platen := rfl
@[simp] theorem State.insertCell_hammer (i : Nat) (c : Cell) :
    (s.insertCell i c).hammer = s.hammer := rfl
@[simp] theorem State.insertCell_ribbon (i : Nat) (c : Cell) :
    (s.insertCell i c).ribbon = s.ribbon := rfl
@[simp] theorem State.insertCell_inputs (i : Nat) (c : Cell) :
    (s.insertCell i c).inputs = s.inputs := rfl
@[simp] theorem State.insertCell_display (i : Nat) (c : Cell) :
    (s.insertCell i c).display = s.display.hearCursor s.line.cursor (cursorAfter i s.line.cursor) := rfl
@[simp] theorem State.insertCell_tone (i : Nat) (c : Cell) : (s.insertCell i c).tone = s.tone := rfl
@[simp] theorem State.insertCell_notices (i : Nat) (c : Cell) :
    (s.insertCell i c).notices = s.notices := rfl
@[simp] theorem State.insertCell_retained (i : Nat) (c : Cell) :
    (s.insertCell i c).retained = s.retained := rfl

/-! ## State.noteWaiting -/

@[simp] theorem State.noteWaiting_pending : s.noteWaiting.pending = s.pending := rfl
@[simp] theorem State.noteWaiting_power : s.noteWaiting.power = s.power := rfl
@[simp] theorem State.noteWaiting_link : s.noteWaiting.link = s.link := rfl
@[simp] theorem State.noteWaiting_keys : s.noteWaiting.keys = s.keys := rfl
@[simp] theorem State.noteWaiting_line : s.noteWaiting.line = s.line := rfl
@[simp] theorem State.noteWaiting_text :
    s.noteWaiting.text = { s.text with runWaits := decide (s.runStatus = .waiting) } := rfl
@[simp] theorem State.noteWaiting_settings : s.noteWaiting.settings = s.settings := rfl
@[simp] theorem State.noteWaiting_strikes : s.noteWaiting.strikes = s.strikes := rfl
@[simp] theorem State.noteWaiting_seq : s.noteWaiting.seq = s.seq := rfl
@[simp] theorem State.noteWaiting_carrier : s.noteWaiting.carrier = s.carrier := rfl
@[simp] theorem State.noteWaiting_wheel : s.noteWaiting.wheel = s.wheel := rfl
@[simp] theorem State.noteWaiting_platen : s.noteWaiting.platen = s.platen := rfl
@[simp] theorem State.noteWaiting_hammer : s.noteWaiting.hammer = s.hammer := rfl
@[simp] theorem State.noteWaiting_ribbon : s.noteWaiting.ribbon = s.ribbon := rfl
@[simp] theorem State.noteWaiting_inputs : s.noteWaiting.inputs = s.inputs := rfl
@[simp] theorem State.noteWaiting_spell : s.noteWaiting.spell = s.spell := rfl
@[simp] theorem State.noteWaiting_display : s.noteWaiting.display = s.display := rfl
@[simp] theorem State.noteWaiting_tone : s.noteWaiting.tone = s.tone := rfl
@[simp] theorem State.noteWaiting_notices : s.noteWaiting.notices = s.notices := rfl
@[simp] theorem State.noteWaiting_retained : s.noteWaiting.retained = s.retained := rfl

/-! ## State.reopen -/

@[simp] theorem State.reopen_pending : s.reopen.pending = s.pending := rfl
@[simp] theorem State.reopen_power : s.reopen.power = s.power := rfl
@[simp] theorem State.reopen_link : s.reopen.link = s.link := rfl
@[simp] theorem State.reopen_keys : s.reopen.keys = s.keys := rfl
@[simp] theorem State.reopen_text : s.reopen.text = s.text := rfl
@[simp] theorem State.reopen_settings : s.reopen.settings = s.settings := rfl
@[simp] theorem State.reopen_strikes : s.reopen.strikes = s.strikes := rfl
@[simp] theorem State.reopen_seq : s.reopen.seq = s.seq := rfl
@[simp] theorem State.reopen_carrier : s.reopen.carrier = s.carrier := rfl
@[simp] theorem State.reopen_wheel : s.reopen.wheel = s.wheel := rfl
@[simp] theorem State.reopen_platen : s.reopen.platen = s.platen := rfl
@[simp] theorem State.reopen_hammer : s.reopen.hammer = s.hammer := rfl
@[simp] theorem State.reopen_ribbon : s.reopen.ribbon = s.ribbon := rfl
@[simp] theorem State.reopen_inputs : s.reopen.inputs = s.inputs := rfl
@[simp] theorem State.reopen_spell : s.reopen.spell = { s.spell with endClosed := false } := rfl
@[simp] theorem State.reopen_display :
    s.reopen.display = s.display.hearCursor s.line.cursor s.line.cells.length := rfl
@[simp] theorem State.reopen_tone : s.reopen.tone = s.tone := rfl
@[simp] theorem State.reopen_notices : s.reopen.notices = s.notices := rfl
@[simp] theorem State.reopen_retained : s.reopen.retained = s.retained := rfl

/-! ## State.turnToPetalZero -/

@[simp] theorem State.turnToPetalZero_pending : s.turnToPetalZero.pending = s.pending := rfl
@[simp] theorem State.turnToPetalZero_power : s.turnToPetalZero.power = s.power := rfl
@[simp] theorem State.turnToPetalZero_link : s.turnToPetalZero.link = s.link := rfl
@[simp] theorem State.turnToPetalZero_keys : s.turnToPetalZero.keys = s.keys := rfl
@[simp] theorem State.turnToPetalZero_line : s.turnToPetalZero.line = s.line := rfl
@[simp] theorem State.turnToPetalZero_text : s.turnToPetalZero.text = s.text := rfl
@[simp] theorem State.turnToPetalZero_settings : s.turnToPetalZero.settings = s.settings := rfl
@[simp] theorem State.turnToPetalZero_strikes : s.turnToPetalZero.strikes = s.strikes := rfl
@[simp] theorem State.turnToPetalZero_seq : s.turnToPetalZero.seq = s.seq := rfl
@[simp] theorem State.turnToPetalZero_carrier : s.turnToPetalZero.carrier = s.carrier := rfl
@[simp] theorem State.turnToPetalZero_wheel :
    s.turnToPetalZero.wheel = { s.wheel with move := some (petalAngle 0 s.retained.wheelPhase) } := rfl
@[simp] theorem State.turnToPetalZero_platen : s.turnToPetalZero.platen = s.platen := rfl
@[simp] theorem State.turnToPetalZero_hammer : s.turnToPetalZero.hammer = s.hammer := rfl
@[simp] theorem State.turnToPetalZero_ribbon : s.turnToPetalZero.ribbon = s.ribbon := rfl
@[simp] theorem State.turnToPetalZero_inputs : s.turnToPetalZero.inputs = s.inputs := rfl
@[simp] theorem State.turnToPetalZero_spell : s.turnToPetalZero.spell = s.spell := rfl
@[simp] theorem State.turnToPetalZero_display : s.turnToPetalZero.display = s.display := rfl
@[simp] theorem State.turnToPetalZero_tone : s.turnToPetalZero.tone = s.tone := rfl
@[simp] theorem State.turnToPetalZero_notices : s.turnToPetalZero.notices = s.notices := rfl
@[simp] theorem State.turnToPetalZero_retained : s.turnToPetalZero.retained = s.retained := rfl

/-! ## State.setCells -/

@[simp] theorem State.setCells_pending (cs : List Cell) : (s.setCells cs).pending = s.pending := rfl
@[simp] theorem State.setCells_power (cs : List Cell) : (s.setCells cs).power = s.power := rfl
@[simp] theorem State.setCells_link (cs : List Cell) : (s.setCells cs).link = s.link := rfl
@[simp] theorem State.setCells_keys (cs : List Cell) : (s.setCells cs).keys = s.keys := rfl
@[simp] theorem State.setCells_line (cs : List Cell) :
    (s.setCells cs).line = { s.line with cells := cs } := rfl
@[simp] theorem State.setCells_text (cs : List Cell) : (s.setCells cs).text = s.text := rfl
@[simp] theorem State.setCells_settings (cs : List Cell) :
    (s.setCells cs).settings = s.settings := rfl
@[simp] theorem State.setCells_strikes (cs : List Cell) : (s.setCells cs).strikes = s.strikes := rfl
@[simp] theorem State.setCells_seq (cs : List Cell) : (s.setCells cs).seq = s.seq := rfl
@[simp] theorem State.setCells_carrier (cs : List Cell) : (s.setCells cs).carrier = s.carrier := rfl
@[simp] theorem State.setCells_wheel (cs : List Cell) : (s.setCells cs).wheel = s.wheel := rfl
@[simp] theorem State.setCells_platen (cs : List Cell) : (s.setCells cs).platen = s.platen := rfl
@[simp] theorem State.setCells_hammer (cs : List Cell) : (s.setCells cs).hammer = s.hammer := rfl
@[simp] theorem State.setCells_ribbon (cs : List Cell) : (s.setCells cs).ribbon = s.ribbon := rfl
@[simp] theorem State.setCells_inputs (cs : List Cell) : (s.setCells cs).inputs = s.inputs := rfl
@[simp] theorem State.setCells_spell (cs : List Cell) : (s.setCells cs).spell = s.spell := rfl
@[simp] theorem State.setCells_display (cs : List Cell) : (s.setCells cs).display = s.display := rfl
@[simp] theorem State.setCells_tone (cs : List Cell) : (s.setCells cs).tone = s.tone := rfl
@[simp] theorem State.setCells_notices (cs : List Cell) : (s.setCells cs).notices = s.notices := rfl
@[simp] theorem State.setCells_retained (cs : List Cell) :
    (s.setCells cs).retained = s.retained := rfl

/-! ## State.startRun -/

@[simp] theorem State.startRun_pending (k : Nat) (e : Ending) :
    (s.startRun k e).pending = s.pending := rfl
@[simp] theorem State.startRun_power (k : Nat) (e : Ending) :
    (s.startRun k e).power = s.power := rfl
@[simp] theorem State.startRun_link (k : Nat) (e : Ending) : (s.startRun k e).link = s.link := rfl
@[simp] theorem State.startRun_keys (k : Nat) (e : Ending) : (s.startRun k e).keys = s.keys := rfl
@[simp] theorem State.startRun_line (k : Nat) (e : Ending) :
    (s.startRun k e).line = { s.line with run := some (extendRun s.line.run k e) } := rfl
@[simp] theorem State.startRun_text (k : Nat) (e : Ending) : (s.startRun k e).text = s.text := rfl
@[simp] theorem State.startRun_settings (k : Nat) (e : Ending) :
    (s.startRun k e).settings = s.settings := rfl
@[simp] theorem State.startRun_strikes (k : Nat) (e : Ending) :
    (s.startRun k e).strikes = s.strikes := rfl
@[simp] theorem State.startRun_seq (k : Nat) (e : Ending) : (s.startRun k e).seq = s.seq := rfl
@[simp] theorem State.startRun_carrier (k : Nat) (e : Ending) :
    (s.startRun k e).carrier = s.carrier := rfl
@[simp] theorem State.startRun_wheel (k : Nat) (e : Ending) :
    (s.startRun k e).wheel = s.wheel := rfl
@[simp] theorem State.startRun_platen (k : Nat) (e : Ending) :
    (s.startRun k e).platen = s.platen := rfl
@[simp] theorem State.startRun_hammer (k : Nat) (e : Ending) :
    (s.startRun k e).hammer = s.hammer := rfl
@[simp] theorem State.startRun_ribbon (k : Nat) (e : Ending) :
    (s.startRun k e).ribbon = s.ribbon := rfl
@[simp] theorem State.startRun_inputs (k : Nat) (e : Ending) :
    (s.startRun k e).inputs = s.inputs := rfl
@[simp] theorem State.startRun_spell (k : Nat) (e : Ending) :
    (s.startRun k e).spell = s.spell := rfl
@[simp] theorem State.startRun_display (k : Nat) (e : Ending) :
    (s.startRun k e).display = s.display := rfl
@[simp] theorem State.startRun_tone (k : Nat) (e : Ending) : (s.startRun k e).tone = s.tone := rfl
@[simp] theorem State.startRun_notices (k : Nat) (e : Ending) :
    (s.startRun k e).notices = s.notices := rfl
@[simp] theorem State.startRun_retained (k : Nat) (e : Ending) :
    (s.startRun k e).retained = s.retained := rfl

/-! ## State.closeAligned -/

@[simp] theorem State.closeAligned_pending : s.closeAligned.pending = s.pending := rfl
@[simp] theorem State.closeAligned_power : s.closeAligned.power = s.power := rfl
@[simp] theorem State.closeAligned_link : s.closeAligned.link = s.link := rfl
@[simp] theorem State.closeAligned_keys : s.closeAligned.keys = s.keys := rfl
@[simp] theorem State.closeAligned_line : s.closeAligned.line = s.line := rfl
@[simp] theorem State.closeAligned_text :
    s.closeAligned.text = { s.text with aligned := none } := rfl
@[simp] theorem State.closeAligned_settings : s.closeAligned.settings = s.settings := rfl
@[simp] theorem State.closeAligned_strikes : s.closeAligned.strikes = s.strikes := rfl
@[simp] theorem State.closeAligned_seq : s.closeAligned.seq = s.seq := rfl
@[simp] theorem State.closeAligned_carrier : s.closeAligned.carrier = s.carrier := rfl
@[simp] theorem State.closeAligned_wheel : s.closeAligned.wheel = s.wheel := rfl
@[simp] theorem State.closeAligned_platen : s.closeAligned.platen = s.platen := rfl
@[simp] theorem State.closeAligned_hammer : s.closeAligned.hammer = s.hammer := rfl
@[simp] theorem State.closeAligned_ribbon : s.closeAligned.ribbon = s.ribbon := rfl
@[simp] theorem State.closeAligned_inputs : s.closeAligned.inputs = s.inputs := rfl
@[simp] theorem State.closeAligned_spell : s.closeAligned.spell = s.spell := rfl
@[simp] theorem State.closeAligned_display : s.closeAligned.display = s.display := rfl
@[simp] theorem State.closeAligned_tone : s.closeAligned.tone = s.tone := rfl
@[simp] theorem State.closeAligned_notices : s.closeAligned.notices = s.notices := rfl
@[simp] theorem State.closeAligned_retained : s.closeAligned.retained = s.retained := rfl

/-! ## State.setWords -/

@[simp] theorem State.setWords_pending (ws : List (List Nat)) :
    (s.setWords ws).pending = s.pending := rfl
@[simp] theorem State.setWords_power (ws : List (List Nat)) : (s.setWords ws).power = s.power := rfl
@[simp] theorem State.setWords_link (ws : List (List Nat)) : (s.setWords ws).link = s.link := rfl
@[simp] theorem State.setWords_keys (ws : List (List Nat)) : (s.setWords ws).keys = s.keys := rfl
@[simp] theorem State.setWords_line (ws : List (List Nat)) : (s.setWords ws).line = s.line := rfl
@[simp] theorem State.setWords_text (ws : List (List Nat)) : (s.setWords ws).text = s.text := rfl
@[simp] theorem State.setWords_settings (ws : List (List Nat)) :
    (s.setWords ws).settings = s.settings := rfl
@[simp] theorem State.setWords_strikes (ws : List (List Nat)) :
    (s.setWords ws).strikes = s.strikes := rfl
@[simp] theorem State.setWords_seq (ws : List (List Nat)) : (s.setWords ws).seq = s.seq := rfl
@[simp] theorem State.setWords_carrier (ws : List (List Nat)) :
    (s.setWords ws).carrier = s.carrier := rfl
@[simp] theorem State.setWords_wheel (ws : List (List Nat)) : (s.setWords ws).wheel = s.wheel := rfl
@[simp] theorem State.setWords_platen (ws : List (List Nat)) :
    (s.setWords ws).platen = s.platen := rfl
@[simp] theorem State.setWords_hammer (ws : List (List Nat)) :
    (s.setWords ws).hammer = s.hammer := rfl
@[simp] theorem State.setWords_ribbon (ws : List (List Nat)) :
    (s.setWords ws).ribbon = s.ribbon := rfl
@[simp] theorem State.setWords_inputs (ws : List (List Nat)) :
    (s.setWords ws).inputs = s.inputs := rfl
@[simp] theorem State.setWords_spell (ws : List (List Nat)) : (s.setWords ws).spell = s.spell := rfl
@[simp] theorem State.setWords_display (ws : List (List Nat)) :
    (s.setWords ws).display = s.display := rfl
@[simp] theorem State.setWords_tone (ws : List (List Nat)) : (s.setWords ws).tone = s.tone := rfl
@[simp] theorem State.setWords_notices (ws : List (List Nat)) :
    (s.setWords ws).notices = s.notices := rfl
@[simp] theorem State.setWords_retained (ws : List (List Nat)) :
    (s.setWords ws).retained = { s.retained with words := ws } := rfl

/-! ## State.writeSettings -/

@[simp] theorem State.writeSettings_pending (f : Settings → Settings) :
    (s.writeSettings f).pending = s.pending := rfl
@[simp] theorem State.writeSettings_power (f : Settings → Settings) :
    (s.writeSettings f).power = s.power := rfl
@[simp] theorem State.writeSettings_link (f : Settings → Settings) :
    (s.writeSettings f).link = s.link := rfl
@[simp] theorem State.writeSettings_keys (f : Settings → Settings) :
    (s.writeSettings f).keys = s.keys := rfl
@[simp] theorem State.writeSettings_line (f : Settings → Settings) :
    (s.writeSettings f).line = s.line := rfl
@[simp] theorem State.writeSettings_text (f : Settings → Settings) :
    (s.writeSettings f).text = s.text := rfl
@[simp] theorem State.writeSettings_settings (f : Settings → Settings) :
    (s.writeSettings f).settings = f s.settings := rfl
@[simp] theorem State.writeSettings_strikes (f : Settings → Settings) :
    (s.writeSettings f).strikes = s.strikes := rfl
@[simp] theorem State.writeSettings_seq (f : Settings → Settings) :
    (s.writeSettings f).seq = s.seq := rfl
@[simp] theorem State.writeSettings_carrier (f : Settings → Settings) :
    (s.writeSettings f).carrier = s.carrier := rfl
@[simp] theorem State.writeSettings_wheel (f : Settings → Settings) :
    (s.writeSettings f).wheel = s.wheel := rfl
@[simp] theorem State.writeSettings_platen (f : Settings → Settings) :
    (s.writeSettings f).platen = s.platen := rfl
@[simp] theorem State.writeSettings_hammer (f : Settings → Settings) :
    (s.writeSettings f).hammer = s.hammer := rfl
@[simp] theorem State.writeSettings_ribbon (f : Settings → Settings) :
    (s.writeSettings f).ribbon = s.ribbon := rfl
@[simp] theorem State.writeSettings_inputs (f : Settings → Settings) :
    (s.writeSettings f).inputs = s.inputs := rfl
@[simp] theorem State.writeSettings_spell (f : Settings → Settings) :
    (s.writeSettings f).spell = s.spell := rfl
@[simp] theorem State.writeSettings_display (f : Settings → Settings) :
    (s.writeSettings f).display = s.display := rfl
@[simp] theorem State.writeSettings_tone (f : Settings → Settings) :
    (s.writeSettings f).tone = s.tone := rfl
@[simp] theorem State.writeSettings_notices (f : Settings → Settings) :
    (s.writeSettings f).notices = s.notices := rfl
@[simp] theorem State.writeSettings_retained (f : Settings → Settings) :
    (s.writeSettings f).retained = { s.retained with settings := f s.retained.settings } := rfl

/-! ## State.takeHead -/

@[simp] theorem State.takeHead_pending : s.takeHead.pending = s.pending := rfl
@[simp] theorem State.takeHead_power : s.takeHead.power = s.power := rfl
@[simp] theorem State.takeHead_link :
    s.takeHead.link = { s.link with
      busyLine := busyLevel (Config.keyPlaces - s.keys.tail.length) s.link.busyLine } := rfl
@[simp] theorem State.takeHead_keys : s.takeHead.keys = s.keys.tail := rfl
@[simp] theorem State.takeHead_line : s.takeHead.line = s.line := rfl
@[simp] theorem State.takeHead_text :
    s.takeHead.text = { s.text with headDue := true, eraseDue := true } := rfl
@[simp] theorem State.takeHead_settings : s.takeHead.settings = s.settings := rfl
@[simp] theorem State.takeHead_strikes : s.takeHead.strikes = s.strikes := rfl
@[simp] theorem State.takeHead_seq : s.takeHead.seq = s.seq := rfl
@[simp] theorem State.takeHead_carrier : s.takeHead.carrier = s.carrier := rfl
@[simp] theorem State.takeHead_wheel : s.takeHead.wheel = s.wheel := rfl
@[simp] theorem State.takeHead_platen : s.takeHead.platen = s.platen := rfl
@[simp] theorem State.takeHead_hammer : s.takeHead.hammer = s.hammer := rfl
@[simp] theorem State.takeHead_ribbon : s.takeHead.ribbon = s.ribbon := rfl
@[simp] theorem State.takeHead_inputs : s.takeHead.inputs = s.inputs := rfl
@[simp] theorem State.takeHead_spell : s.takeHead.spell = s.spell := rfl
@[simp] theorem State.takeHead_display : s.takeHead.display = s.emptySlot.display := rfl
@[simp] theorem State.takeHead_tone : s.takeHead.tone = s.tone := rfl
@[simp] theorem State.takeHead_notices : s.takeHead.notices = s.notices := rfl
@[simp] theorem State.takeHead_retained : s.takeHead.retained = s.retained := rfl

/-! ## State.openLine -/

@[simp] theorem State.openLine_pending (x : Nat) (v : Int) :
    (s.openLine x v).pending = s.pending := rfl
@[simp] theorem State.openLine_power (x : Nat) (v : Int) : (s.openLine x v).power = s.power := rfl
@[simp] theorem State.openLine_link (x : Nat) (v : Int) : (s.openLine x v).link = s.link := rfl
@[simp] theorem State.openLine_keys (x : Nat) (v : Int) : (s.openLine x v).keys = s.keys := rfl
@[simp] theorem State.openLine_line (x : Nat) (v : Int) :
    (s.openLine x v).line = .opened x v s.settings.format := rfl
@[simp] theorem State.openLine_text (x : Nat) (v : Int) :
    (s.openLine x v).text = { s.text with marginRelease := false, bell := false, aligned := none } := rfl
@[simp] theorem State.openLine_settings (x : Nat) (v : Int) :
    (s.openLine x v).settings = s.settings := rfl
@[simp] theorem State.openLine_strikes (x : Nat) (v : Int) :
    (s.openLine x v).strikes = s.strikes := rfl
@[simp] theorem State.openLine_seq (x : Nat) (v : Int) : (s.openLine x v).seq = s.seq := rfl
@[simp] theorem State.openLine_carrier (x : Nat) (v : Int) :
    (s.openLine x v).carrier = s.carrier := rfl
@[simp] theorem State.openLine_wheel (x : Nat) (v : Int) : (s.openLine x v).wheel = s.wheel := rfl
@[simp] theorem State.openLine_platen (x : Nat) (v : Int) :
    (s.openLine x v).platen = s.platen := rfl
@[simp] theorem State.openLine_hammer (x : Nat) (v : Int) :
    (s.openLine x v).hammer = s.hammer := rfl
@[simp] theorem State.openLine_ribbon (x : Nat) (v : Int) :
    (s.openLine x v).ribbon = s.ribbon := rfl
@[simp] theorem State.openLine_inputs (x : Nat) (v : Int) :
    (s.openLine x v).inputs = s.inputs := rfl
@[simp] theorem State.openLine_spell (x : Nat) (v : Int) :
    (s.openLine x v).spell = { s.spell with endClosed := false } := rfl
@[simp] theorem State.openLine_display (x : Nat) (v : Int) :
    (s.openLine x v).display = { s.display.hearCursor s.line.cursor 0 with told := true } := rfl
@[simp] theorem State.openLine_tone (x : Nat) (v : Int) : (s.openLine x v).tone = s.tone := rfl
@[simp] theorem State.openLine_notices (x : Nat) (v : Int) :
    (s.openLine x v).notices = s.notices := rfl
@[simp] theorem State.openLine_retained (x : Nat) (v : Int) :
    (s.openLine x v).retained = s.retained := rfl

/-! ## State.closeLine -/

@[simp] theorem State.closeLine_pending : s.closeLine.pending = s.pending := rfl
@[simp] theorem State.closeLine_power : s.closeLine.power = s.power := rfl
@[simp] theorem State.closeLine_link : s.closeLine.link = s.link := rfl
@[simp] theorem State.closeLine_keys : s.closeLine.keys = s.keys := rfl
@[simp] theorem State.closeLine_line : s.closeLine.line = s.line := rfl
@[simp] theorem State.closeLine_text : s.closeLine.text = s.text := rfl
@[simp] theorem State.closeLine_settings : s.closeLine.settings = s.settings := rfl
@[simp] theorem State.closeLine_seq : s.closeLine.seq = s.seq := rfl
@[simp] theorem State.closeLine_carrier : s.closeLine.carrier = s.carrier := rfl
@[simp] theorem State.closeLine_wheel : s.closeLine.wheel = s.wheel := rfl
@[simp] theorem State.closeLine_platen : s.closeLine.platen = s.platen := rfl
@[simp] theorem State.closeLine_hammer : s.closeLine.hammer = s.hammer := rfl
@[simp] theorem State.closeLine_ribbon : s.closeLine.ribbon = s.ribbon := rfl
@[simp] theorem State.closeLine_inputs : s.closeLine.inputs = s.inputs := rfl
@[simp] theorem State.closeLine_tone : s.closeLine.tone = s.tone := rfl
@[simp] theorem State.closeLine_notices : s.closeLine.notices = s.notices := rfl
@[simp] theorem State.closeLine_retained : s.closeLine.retained = s.retained := rfl

/-! ## State.nextLine -/

@[simp] theorem State.nextLine_pending : s.nextLine.pending = s.pending := rfl
@[simp] theorem State.nextLine_power : s.nextLine.power = s.power := rfl
@[simp] theorem State.nextLine_link : s.nextLine.link = s.link := rfl
@[simp] theorem State.nextLine_keys : s.nextLine.keys = s.keys := rfl
@[simp] theorem State.nextLine_line :
    s.nextLine.line = .opened s.settings.left 0 s.settings.format := rfl
@[simp] theorem State.nextLine_text :
    s.nextLine.text = { s.text with marginRelease := false, bell := false, aligned := none } := rfl
@[simp] theorem State.nextLine_settings : s.nextLine.settings = s.settings := rfl
@[simp] theorem State.nextLine_seq : s.nextLine.seq = s.seq := rfl
@[simp] theorem State.nextLine_carrier : s.nextLine.carrier = s.carrier := rfl
@[simp] theorem State.nextLine_wheel : s.nextLine.wheel = s.wheel := rfl
@[simp] theorem State.nextLine_platen : s.nextLine.platen = s.platen := rfl
@[simp] theorem State.nextLine_hammer : s.nextLine.hammer = s.hammer := rfl
@[simp] theorem State.nextLine_ribbon : s.nextLine.ribbon = s.ribbon := rfl
@[simp] theorem State.nextLine_inputs : s.nextLine.inputs = s.inputs := rfl
@[simp] theorem State.nextLine_tone : s.nextLine.tone = s.tone := rfl
@[simp] theorem State.nextLine_notices : s.nextLine.notices = s.notices := rfl
@[simp] theorem State.nextLine_retained : s.nextLine.retained = s.retained := rfl

end Sys2Proof.Machine
end

