-- ==== Sys2Proof/Laws/Ops.lean ====
section
/-! SUPPORT. What each shared operation does, said once: steps, keys, requests, notices, groups, cells,
withdrawals, faults and pulses. -/

namespace Sys2Proof.Machine

variable {s : State}

/-! ## Steps -/

@[simp] theorem step_nil (h : s.pending = []) : step s = .next s := by simp [step, h]

@[simp] theorem step_cons (i : Instr) (rest : List Instr) (h : s.pending = i :: rest) :
    step s = exec i { s with pending := rest } := by simp [step, h]

/-! ## Keys (R23, R25) -/

/-- A key that is taken and acts: the event is what it does on the state without it, concluded. -/
theorem examine_takes {k : KeyKind} {e : KeyEntry} {act : KeyEntry → State → Option State}
    {t : State} (h : s.takesKey k e) (ht : act e s.takeHead = some t) :
    s.examine k act = t.conclude s := by
  obtain ⟨live, head, kind, due, held⟩ := h
  cases hk : s.keys with
  | nil => simp [hk] at head
  | cons a rest =>
    obtain rfl : a = e := by simpa [hk] using head
    simp [State.examine, live, State.dueHead, hk, due, kind, held, ht]

/-- A key that cannot act stays at the head. -/
theorem examine_waits {k : KeyKind} {e : KeyEntry} {act : KeyEntry → State → Option State}
    (h : s.takesKey k e) (ht : act e s.takeHead = none) : s.examine k act = s.keyStays := by
  obtain ⟨live, head, kind, due, held⟩ := h
  cases hk : s.keys with
  | nil => simp [hk] at head
  | cons a rest =>
    obtain rfl : a = e := by simpa [hk] using head
    simp [State.examine, live, State.dueHead, hk, due, kind, held, ht]

/-- Outside RETURN_WAIT a printing, layout or line-moving key acts on the state of `State.acting`. -/
theorem onNewLine_acting (e : KeyEntry) (act : State → Option State)
    (h : s.line.state ≠ .returnWait) : s.takeHead.onNewLine e act = act s.acting := by
  unfold State.onNewLine State.acting
  simp only [State.takeHead_line]
  cases hs : s.line.state <;> simp_all

/-- In RETURN_WAIT such a key is refused. -/
theorem onNewLine_wait (e : KeyEntry) (act : State → Option State)
    (h : s.line.state = .returnWait) :
    s.takeHead.onNewLine e act = some (s.takeHead.refuseLost e) := by
  simp [State.onNewLine, h]

@[simp] theorem acting_keys (s : State) : s.acting.keys = s.keys.tail := by
  unfold State.acting; split <;> simp
@[simp] theorem acting_settings (s : State) : s.acting.settings = s.settings := by
  unfold State.acting; split <;> simp
@[simp] theorem acting_retained (s : State) : s.acting.retained = s.retained := by
  unfold State.acting; split <;> simp
@[simp] theorem acting_seq (s : State) : s.acting.seq = s.seq := by
  unfold State.acting; split <;> simp
@[simp] theorem acting_wheel (s : State) : s.acting.wheel = s.wheel := by
  unfold State.acting; split <;> simp
@[simp] theorem acting_notices (s : State) : s.acting.notices = s.notices := by
  unfold State.acting; split <;> simp

/-- BUSY at the ends of its band and inside it (R177). -/
theorem busyLevel_cases (free : Nat) (level : Bool) :
    (free ≤ 8 → busyLevel free level = true) ∧ (24 ≤ free → busyLevel free level = false) ∧
      (8 < free → free < 24 → busyLevel free level = level) := by
  unfold busyLevel
  refine ⟨fun h => by simp [h], fun h => ?_, fun h1 h2 => ?_⟩
  · rw [if_neg (by omega), if_pos h]
  · rw [if_neg (by omega), if_neg (by omega)]

/-! ## Requests (R178) -/

/-- A request that is taken: its frame is taken in, the slot is busy with it, it acts, and its answer is
formed in the event. -/
theorem offerRequest_taken {num code : Byte} {args : List Byte} {act : State → Acted}
    (h : s.takesRequest args) :
    s.offerRequest num code args act =
      (let t := s.takeFrame 0x03 (num :: code :: args)
       let a := act { t with link := { t.link with slot := some ⟨num, false⟩ } }
       State.finish { a.state with link := { a.state.link with
          slotAnswer := some (num :: byteOf a.result.number :: a.data) } } s) := by
  obtain ⟨live, rx, len, slot⟩ := h
  have hr : s.receiving = true := by simp [State.receiving, live, rx]
  have hg : goodRequest args = true := by simp [goodRequest]; omega
  have hs : (s.takeFrame 0x03 (num :: code :: args)).link.slot = none := slot
  simp only [State.offerRequest, hr, hg, hs]
  rfl

/-! ## Notices (R183) -/

/-- The row written is the row read, and the other thirteen stay. -/
theorem setRow_row (t : NoticeRows) (k j : NoticeKind) (r : NoticeRow) :
    (t.setRow k r).row j = if j = k then r else t.row j := by
  cases k <;> cases j <;> rfl

/-! ## Groups (R71) -/

@[simp] theorem number_length (n : Nat) (es : List Entry) : (number n es).length = es.length := by
  induction es generalizing n with
  | nil => rfl
  | cons e es ih => simp [number, ih]

@[simp] theorem markLast_length (es : List Entry) : (markLast es).length = es.length := by
  induction es with
  | nil => rfl
  | cons e es ih => cases es <;> simp_all [markLast]

@[simp] theorem markGroup_length (es : List Entry) : (markGroup es).length = es.length := by
  have h := markLast_length (es.map fun e => { e with first := false })
  unfold markGroup
  cases hm : markLast (es.map fun e => { e with first := false }) <;> simp_all

/-- A group with room joins the tail, numbered and marked. -/
theorem appendGroup_fits {es : List Entry} (h : s.strikes.entries.length + es.length ≤ 32) :
    s.appendGroup es = { s with strikes :=
      { entries := s.strikes.entries ++ number s.strikes.nextId (markGroup es),
        nextId := s.strikes.nextId + es.length } } := by
  simp only [State.appendGroup]; exact if_pos h

/-- A group without room is refused whole. -/
theorem appendGroup_full {es : List Entry} (h : 32 < s.strikes.entries.length + es.length) :
    s.appendGroup es = s := by
  simp only [State.appendGroup]; exact if_neg (by show ¬ _ ≤ 32; omega)

/-- An append keeps the queue within its places. -/
theorem appendGroup_bounded (es : List Entry) (h : s.StrikesBounded) :
    (s.appendGroup es).StrikesBounded := by
  unfold State.StrikesBounded at *
  by_cases hr : s.strikes.entries.length + es.length ≤ 32
  · rw [appendGroup_fits hr]; simp only [List.length_append, number_length, markGroup_length]; exact hr
  · rw [appendGroup_full (by omega)]; exact h

/-! ## Withdrawals (R72) -/

/-- A withdrawal leaves exactly the entries that do not meet its test. -/
@[simp] theorem withdraw_entries (p : Entry → Bool) :
    (s.withdraw p).strikes.entries = s.strikes.entries.filter fun e => !p e := by
  unfold State.withdraw; simp only; split <;> rfl

/-- A withdrawal leaves the line, the drives and the heat account. -/
theorem withdraw_frame (p : Entry → Bool) :
    (s.withdraw p).line = s.line ∧ (s.withdraw p).carrier = s.carrier ∧
      (s.withdraw p).wheel = s.wheel ∧ (s.withdraw p).platen = s.platen ∧
      (s.withdraw p).hammer.heat = s.hammer.heat ∧ (s.withdraw p).hammer.pulse = s.hammer.pulse ∧
      (s.withdraw p).settings = s.settings ∧ (s.withdraw p).retained = s.retained := by
  unfold State.withdraw; simp only; split <;> simp [State.dropHead]

/-! ## Cells (R2) -/

/-- A removal keeps the cursor within the line. -/
theorem removeCell_inside (i : Nat) (hi : i < s.line.cells.length) (h : s.CursorInside) :
    (s.removeCell i).CursorInside := by
  unfold State.CursorInside at *
  simp only [State.removeCell, List.length_eraseIdx, hi, if_true, below]
  split <;> omega

/-- An insertion within the line keeps the cursor within it. -/
theorem insertCell_inside (i : Nat) (c : Cell) (hi : i ≤ s.line.cells.length)
    (h : s.CursorInside) : (s.insertCell i c).CursorInside := by
  unfold State.CursorInside at *
  simp only [State.insertCell, List.length_insertIdx_of_le_length hi, cursorAfter]
  split <;> omega

/-- A re-placement after a deletion leaves a line in which no cell had to move, or gives the PENDING cells
their new places within the limit of the margin lock; nothing else changes (R55). -/
theorem replace_cases {t : State} (h : s.replace = some t) :
    t = s ∨ ∃ cells, rechain s.text.aligned s.line = some cells ∧ t = s.setCells cells ∧
      t.line.endPos ≤ t.limit := by
  unfold State.replace at h
  simp only at h
  repeat' split at h
  · cases h
  · cases h; exact .inl rfl
  · rename_i cells hr _ hl
    cases h; exact .inr ⟨cells, hr, rfl, hl⟩
  · cases h

/-! ## The Display Controller (R2, R162, R167) -/

/-- A render leaves nothing told that it has not shown. -/
@[simp] theorem render_told (s : State) :
    s.render.display.told = false ∧ s.render.display.cursorTold = false := ⟨rfl, rfl⟩

/-- Once the Display Controller has been told of a change, the event ends in a render. -/
theorem renderIf_told {old : State} (h : s.display.told = true ∨ s.display.cursorTold = true) :
    s.renderIf old = (if s.display.cursorTold then s.steadyBlink else s).render := by
  have : old.displayChanged s = true := by
    unfold State.displayChanged
    rcases h with h | h <;> simp [h]
  simp [State.renderIf, this]

/-! ## Faults (R89) and pulses (R117) -/

/-- What every fault leaves alone, and what it sets. -/
theorem takeFault_spec (code : FaultCode) :
    let t := s.takeFault code
    t.seq.mech = .fault ∧ t.seq.fault = some code ∧ t.seq.stage = none ∧ t.strikes = s.strikes ∧
      t.line = s.line ∧ t.keys = s.keys ∧ t.settings = s.settings ∧ t.retained = s.retained ∧
      t.carrier = s.carrier ∧ t.hammer = { s.hammer with request := none } := by
  unfold State.takeFault; simp only; split <;> simp

/-- A pulse is begun exactly where the heat rule grants it, and the account is then charged. -/
theorem tryFire_cases :
    s.tryFire = s ∨ ∃ n e, s.hammer.request = some n ∧ s.entry = some e ∧
      s.hammer.heat + n ≤ 600 ∧ s.inputs.hammerHome.qualified = true ∧
      s.seq.stage = some .heatWait ∧ s.tryFire = s.beginFire e n := by
  unfold State.tryFire
  split
  · rename_i n e hn he
    split
    · rename_i h
      simp only [State.grantable, hn, Bool.and_eq_true, decide_eq_true_eq] at h
      exact .inr ⟨n, e, hn, he, h.1.1, h.1.2, h.2, rfl⟩
    · exact .inl rfl
  · exact .inl rfl

/-- A pulse that begins keeps the heat account within its scale. -/
theorem tryFire_bounded (h : s.HeatBounded) : s.tryFire.HeatBounded := by
  rcases tryFire_cases (s := s) with h' | ⟨n, e, _, _, hb, _, _, h'⟩
  · rw [h']; exact h
  · rw [h']
    have : (s.beginFire e n).hammer.heat = s.hammer.heat + n := by
      unfold State.beginFire State.fireReport; split <;> rfl
    unfold State.HeatBounded; rw [this]; exact hb

/-! ## The recorded ribbon kind (R9, R123) -/

/-- Ink added to a cell leaves a record other than FILM as it is. -/
theorem inkAdded_keeps {now cell : Option RibbonKind} (h : cell ≠ some .film) :
    inkAdded now cell = cell := by simp [inkAdded, h]

/-- Ink of a kind added to a cell that records FILM is what the cell then records. -/
@[simp] theorem inkAdded_film (k : RibbonKind) : inkAdded (some k) (some .film) = some k := by
  simp [inkAdded]

end Sys2Proof.Machine
end

