-- ==== Sys2Proof/WellFormed.lean ====
section
/-! DEFINITION. Well-formed commands: operands the outside can give. exec leaves the state unchanged on
an ill-formed one (log entry 1). -/

namespace Sys2Proof

open Machine

/-- The bytes received show a frame error, and the last of them is the one that shows it (R173). -/
def showsError (rx : List RxByte) : Bool :=
  match judge rx with
  | .error _ _ rest => rest.isEmpty
  | _ => false

/-- The bytes received are part of a frame, without error so far (R173). -/
def isPartial (rx : List RxByte) : Bool :=
  match judge rx with
  | .incomplete _ => true
  | _ => false

/-- A command whose operands the outside can give: a TEXT frame of 1 to 48 bytes, a REQUEST frame of at
most 48, a frame error that its last byte shows, an unfinished frame before a gap, a code that no request
has, and a dictionary read of a header or a bucket (R151, R173, R185). -/
def WellFormed : Instr → Bool
  | .powerUp | .mainPowerFail | .resetPinAssert | .resetPinRelease => true
  | .keyFrame _ _ => true
  | .textFrame bytes => decide (1 ≤ bytes.length) && decide (bytes.length ≤ 48)
  | .frameError rx => showsError rx
  | .frameGapTimeout rx => isPartial rx
  | .resyncIdleExpiry | .transmitComplete => true
  | .setMargins _ args | .setTab _ args | .clearTab _ args | .clearTabs _ args
  | .setPitch _ args | .setSpacing _ args | .setImpression _ args | .setTypingMode _ args
  | .setSpellMode _ args | .setToneVolume _ args | .addWordRequest _ args | .removeWord _ args
  | .enableNotices _ args | .disableNotices _ args | .readPage _ args | .writeTestPattern _ args
  | .clearErrorLog _ args | .readLine _ args | .pauseRequest _ args | .continueRequest _ args
  | .resume _ args | .restart _ args | .soundTone _ args | .enterAdjust _ args
  | .adjustStep _ args | .testStrike _ args | .leaveAdjust _ args => goodRequest args
  | .unknownRequestCode _ code args => !listedCode code && goodRequest args
  | .graphicCode | .space | .tab | .decimalTab | .returnKey | .index | .reverseIndex | .halfUp
  | .halfDown | .backspace | .forward | .relocate | .correct | .wordErase | .lineErase
  | .acceptWord | .addWord | .center | .flushRight | .marginRelease | .setLeft | .setRight
  | .tabSet | .tabClear | .bold | .underline | .printHold | .unknownKeyCode => true
  | .releaseRunStep | .eraseStep | .carrierMoveComplete _ | .wheelRotationComplete
  | .platenMotionComplete | .fire | .pulseEnd | .settleEnd | .advanceEnd | .decayEvent
  | .homingOffSwitchEnd | .carrierHomeFound | .carrierHomeSearchLimit => true
  | .notchTrailingEdge _ | .notchClassified | .searchRevolutionLimit => true
  | .rawLevelChange _ _ | .qualificationTimerExpiry _ _ | .sensingSample _ => true
  | .dictReadComplete data => data.length = 16 || data.length = 32
  | .blinkToggle | .messageExpiry | .displaySendComplete | .toneComplete
  | .resyncByteReceived | .encoderMarkPassed | .backupSupplyLost => true

end Sys2Proof
end

