-- ==== Sys2Proof/Tests/Slice0.lean ====
section
/-! SUPPORT. Tests: the well-formedness smoke tests, worked examples of the spec, and a witness for the
hypotheses of every statement that has some. -/

namespace Sys2Proof.Tests

open Sys2Proof.Machine

/-! ## Small states -/

/-- A part that has reached READY with wheel 2, a FILM ribbon and LIFT_TAPE, its coil cold, the carrier at
the left margin. -/
def rest : State := { State.reset with
  seq := { State.reset.seq with mech := .idle, startup := none }
  carrier := ⟨120, true, 0, .none⟩
  wheel := ⟨0, true, 2, true, 2, .idle, 0, none, none⟩
  hammer := ⟨0, false, none, none⟩
  ribbon := ⟨some .film, some .liftTape, none, false, false, 0⟩
  spell := { State.reset.spell with port := .idle, main := .absent, supplement := .absent } }

/-- A key of a code stands at the head, to be examined. -/
def keyed (s : State) (code : Byte) : State :=
  { s with keys := [⟨code, .key, false⟩], text := { s.text with headDue := true } }

/-- The mechanism state. -/
def inMech (s : State) (m : Mech) : State := { s with seq := { s.seq with mech := m } }

/-- A GLYPH cell 'a' of ten steps. -/
def glyph (id x : Nat) (st : CellState) : Cell :=
  ⟨id, .glyph, some 0x61, none, x, 10, 0, false, false, some 2, some 9, some .film,
    (if st = .struck then 1 else 0), st, none, none⟩

/-- A line of cells with the cursor at a place. -/
def lined (s : State) (c : Nat) (cs : List Cell) : State :=
  { s with line := { s.line with cursor := c, cells := cs }, text := { s.text with nextCell := 9 } }

/-- A PRINT entry for cell 1, in flight at a stage. -/
def printing (st : Stage) : State := { rest with
  strikes := ⟨[{ Entry.plain .print with x := some 130, voff := some 0, petal := some 64, energy := some 9, width := some 10, wheelId := some 2, cell := some 1, first := true, last := true }], 1⟩
  seq := { rest.seq with mech := .running, stage := some st, inFlight := some ⟨0, false⟩ }
  line := { rest.line with cursor := 1, cells := [glyph 1 120 .striking] } }

/-- A word record. -/
def unknownWord : WordRecord := ⟨3, 1, 2, some [1, 1], .unknown, false⟩

/-! ## Ill-formed commands (the checks of WellFormed) -/

theorem test_wf_empty_text : WellFormed (.textFrame []) = false := by decide
theorem test_wf_long_text : WellFormed (.textFrame (List.replicate 49 0x20)) = false := by decide
theorem test_wf_good_frame_is_no_error :
    WellFormed (.frameError [⟨0x01, false⟩, ⟨0x02, false⟩, ⟨0x61, false⟩, ⟨0x00, false⟩,
      ⟨0x9C, false⟩]) = false := by decide
theorem test_wf_error_before_last_byte :
    WellFormed (.frameError [⟨0x07, false⟩, ⟨0x02, false⟩]) = false := by decide
theorem test_wf_gap_after_error : WellFormed (.frameGapTimeout [⟨0x07, false⟩]) = false := by
  decide
theorem test_wf_long_request :
    WellFormed (.clearTabs 0 (List.replicate 47 0x00)) = false := by decide
theorem test_wf_listed_code : WellFormed (.unknownRequestCode 0 0x1B []) = false := by decide
theorem test_wf_dict_length : WellFormed (.dictReadComplete [0x4E]) = false := by decide
theorem test_wf_error_shown : WellFormed (.frameError [⟨0x07, false⟩]) = true := by decide
theorem test_wf_gap_shown : WellFormed (.frameGapTimeout [⟨0x01, false⟩]) = true := by decide

/-- No row of the table gives bits. -/
theorem test_no_word_decodes : decodeTableWord 16 0x1234 = none := by decide

/-! ## Worked examples of the spec -/

/-- 10_link_requests_and_notices.md: a keystroke 'a' is C3 01 02 61 00 9C. -/
theorem test_key_frame_bytes :
    frameBytes 0x01 [0x61, 0x00] = [0xC3, 0x01, 0x02, 0x61, 0x00, 0x9C] := by decide
/-- 08_spelling.md, the hash of "type". -/
theorem test_hash_of_type : hashA [20, 25, 16, 5] = 30522 := by decide
theorem test_signature_of_type : signature [20, 25, 16, 5] = 45508 := by decide
/-- The table of R58. -/
theorem test_underscores_20_8 : underscoreXs 0 20 8 = [0, 8, 12] := by decide
theorem test_underscores_36_8 : underscoreXs 0 36 8 = [0, 8, 16, 24, 28] := by decide
theorem test_underscores_6_8 : underscoreXs 0 6 8 = [0] := by decide
/-- The examples of R111. -/
theorem test_energy_dot : energyIndex 0 3 (some .film) 0 = 6 := by decide
theorem test_energy_e_fabric : energyIndex 1 2 (some .fabric) 0 = 8 := by decide
theorem test_energy_m_trimmed : energyIndex 3 5 (some .fabric) 2 = 25 := by decide
theorem test_energy_lowest : energyIndex 0 1 (some .film) (-4) = 1 := by decide
/-- R151's bytes for the bucket of "type", 30522 mod 4096 = 1850: 16 + 32 × 1850 is 0x00E750. -/
theorem test_bucket_bytes_of_type :
    30522 % 4096 = 1850 ∧ (DictPort.bucket .main 1850).sends = [0x03, 0x00, 0xE7, 0x50] := by decide
/-- R64's example: L = 120, R = 1080 and N = 300 give 450; R65's gives 780. -/
theorem test_centred : centerStart 120 1080 300 = 450 := by decide
theorem test_flush_right : flushStart 120 1080 300 = 780 := by decide
/-- R160's table at its edges. -/
theorem test_window_edges :
    (windowOrigin 0 35, windowOrigin 0 36, windowOrigin 5 8, windowOrigin 5 9) =
      (0, 1, 4, 5) := by decide
/-- R177's band. -/
theorem test_busy_band :
    (busyLevel 8 false, busyLevel 9 false, busyLevel 23 true, busyLevel 24 true) =
      (true, false, true, false) := by decide
/-- R97's classes at their edges. -/
theorem test_notch_edges :
    [1, 2, 4, 9, 10, 12, 20, 21, 28, 40, 41].map notchClass =
      [.glitch, .invalid, .narrow, .narrow, .invalid, .wide, .wide, .invalid, .home, .home,
        .invalid] := by decide
/-- R176's mapping. -/
theorem test_text_mapping :
    [0x0D, 0x09, 0x08, 0x0A, 0x0B, 0x61, 0xF0].map textEntry =
      [some 0x01, some 0x02, some 0x04, some 0x0A, none, some 0x61, some 0xF0] := by decide
/-- R136's examples: "one two" and "one ". -/
theorem test_word_stop_trailing_space :
    wordStop [glyph 0 0 .pending, { glyph 1 10 .pending with kind := .space }] 2 = 0 := by decide
/-- The reset frame is the frame a render would compose (R159, R163). -/
theorem test_reset_frame : State.reset.frame = startFrame := by decide

/-- One key, one cell: 'a' typed in DIRECT is released at once. -/
theorem test_type_a :
    (match exec .graphicCode (keyed rest 0x61) with
     | .next t => (t.line.cells.map fun c => (c.x, c.e, c.state), t.strikes.entries.length)
     | _ => ([], 0)) = ([(120, 10, .queued)], 1) := by decide
/-- BOLD toggles. -/
theorem test_bold :
    (match exec .bold (keyed rest 0x15) with
     | .next t => t.text.bold | _ => false) = true := by decide
/-- R19 and R167: INDEX on an empty OPEN line of a paused part closes it and opens an equal one, and makes
a render, the blink phase on. -/
theorem test_index_on_empty_line_renders :
    (match exec .index (keyed { inMech rest .paused with
        display := { rest.display with next := [], go := false } } 0x0A) with
     | .next t => decide (t.display.next = t.frame ∧ t.display.go = true)
     | _ => false) = true := by decide
/-- R162: 'b' on a RETURNED line of one cell leaves the cursor at 1 and makes the blink phase on. -/
theorem test_key_after_return_shows_cursor :
    (match exec .graphicCode (keyed { lined rest 1 [glyph 1 120 .struck] with
        line := { rest.line with state := .returned, cursor := 1, cells := [glyph 1 120 .struck] }
        display := { rest.display with phaseOn := false, blinkTimer := 3 } } 0x62) with
     | .next t => (t.line.cursor, t.display.phaseOn, t.display.blinkTimer)
     | _ => (0, false, 0)) = (1, true, 250) := by decide
/-- R61: with '1', a TAB to 600 and '2' in a run that opens at 480 for the stop 600, the TAB holds its end
(R55), so that W comes to 130 and the opening TAB to max(0, 120 - 130). -/
theorem test_tab_inside_aligned_run :
    let tab (id x e : Nat) : Cell := { glyph id x .pending with kind := .tab, code := none, e := e }
    let l : Line := { rest.line with start := 480, cells := [tab 1 480 100, glyph 2 580 .pending, tab 3 590 10, glyph 4 590 .pending] }
    (rechain (some ⟨1, 600⟩) l).map (·.map fun c => (c.x, c.e)) =
      some [(480, 0), (480, 10), (490, 110), (600, 10)] := by decide
/-- R75, R82, R167: RELOCATE in IDLE with the carrier at its target runs and ends in one event, and makes
a render. -/
theorem test_relocate_in_place_renders :
    (match exec .relocate (keyed { rest with
        display := { rest.display with next := [], go := false } } 0x06) with
     | .next t => decide (t.seq.mech = .idle ∧ t.strikes.entries = [] ∧ t.display.next = t.frame)
     | _ => false) = true := by decide
/-- RESET holds the part at rest. -/
theorem test_reset_low :
    (match exec .resetPinAssert rest with | .next t => t.live | _ => true) = false := by decide

/-! ## Witnesses: starts and link -/

theorem test_witness_PowerUpStarts :
    ({ rest with power := ⟨false, false⟩ } : State).power = ⟨false, false⟩ ∧
      rest.retained.marker = true := by decide
theorem test_witness_PowerUpStarts_cold :
    ({ rest with power := ⟨false, false⟩, retained := { rest.retained with marker := false } } :
      State).retained.marker = false := by decide
theorem test_witness_ResetPinAndRestartStartWarm :
    ({ rest with power := ⟨true, true⟩ } : State).power = ⟨true, true⟩ := by decide
theorem test_witness_ResetPinAndRestartStartWarm_restart :
    let s := { rest with link := { rest.link with
      transmitter := .sending .answer (frameBytes 0x81 [0x07, 0x00]), slot := some ⟨0x07, true⟩ } }
    s.live = true ∧ s.link.transmitter = .sending .answer (frameBytes 0x81 [0x07, 0x00]) ∧
      s.link.slot = some ⟨0x07, true⟩ := by decide
theorem test_witness_KeyFrameJoinsOrIsLost :
    rest.receiving = true ∧ (inMech rest .adjust).receiving = true := by decide
theorem test_witness_KeyFrameJoinsOrIsLost_full :
    let s := { rest with keys := List.replicate 64 ⟨0x61, .key, false⟩ }
    let r := { rest with keys := List.replicate 48 ⟨0x61, .key, false⟩ }
    s.receiving = true ∧ s.keyFree = 0 ∧ r.receiving = true ∧ r.keyFree = 16 := by decide
theorem test_witness_TextFrameJoinsOrIsRefused :
    rest.receiving = true ∧ 1 ≤ ([0x61] : List Byte).length ∧
      (List.replicate 48 (0x61 : Byte)).length ≤ 48 ∧ rest.keyFree = 64 := by decide
theorem test_witness_TextFrameJoinsOrIsRefused_full :
    ({ rest with keys := List.replicate 56 ⟨0x61, .key, false⟩ } : State).keyFree < 1 + 8 := by
  decide
theorem test_witness_FrameInErrorIsLoggedUntilIdle :
    rest.receiving = true ∧ judge [⟨0x07, false⟩] = .error .kind ⟨some 0x07, none, []⟩ [] ∧
      judge [⟨0x01, false⟩] = .incomplete ⟨some 0x01, none, []⟩ := by decide
theorem test_witness_FrameInErrorIsLoggedUntilIdle_idle :
    let s := { rest with link := { rest.link with receiver := .resync } }
    s.live = true ∧ s.link.receiver = .resync := by decide
/-- R173's table at its edges: KIND 0x04, LENGTH 49 and 1, CHECK one off, STOP at the check byte. -/
theorem test_witness_FrameInErrorIsLoggedUntilIdle_judge :
    let got (bs : List Byte) : List RxByte := bs.map fun b => ⟨b, false⟩
    judge (got [0x04]) = .error .kind ⟨some 0x04, none, []⟩ [] ∧
      judge (got [0x02, 49]) = .error .length ⟨some 0x02, some 49, []⟩ [] ∧
      judge (got [0x02, 48]) = .incomplete ⟨some 0x02, some 48, []⟩ ∧
      judge (got [0x03, 1]) = .error .length ⟨some 0x03, some 1, []⟩ [] ∧
      judge (got [0x03, 2]) = .incomplete ⟨some 0x03, some 2, []⟩ ∧
      judge (got [0x01, 0x02, 0x61, 0x00, 0x9C]) = .good ⟨some 0x01, some 2, [0x61, 0x00]⟩ [] ∧
      judge (got [0x01, 0x02, 0x61, 0x00, 0x9D]) =
        .error .check ⟨some 0x01, some 2, [0x61, 0x00]⟩ [] ∧
      judge (got [0x01, 0x02, 0x61, 0x00] ++ [⟨0x9C, true⟩]) =
        .error .stop ⟨some 0x01, some 2, [0x61, 0x00]⟩ [] := by
  refine ⟨rfl, rfl, rfl, rfl, rfl, rfl, rfl, rfl⟩
theorem test_witness_TransmitterChoosesByScan :
    let s := { rest with link := { rest.link with
      transmitter := .sending .answer (frameBytes 0x81 [0x07, 0x00]), slot := some ⟨0x07, false⟩ } }
    s.live = true ∧ s.link.transmitter = .sending .answer (frameBytes 0x81 [0x07, 0x00]) ∧
      s.link.slot = some ⟨0x07, false⟩ := by decide

/-! ## Witnesses: requests -/

theorem test_witness_takesRequest (args : List Byte) (h : args.length ≤ 46) :
    rest.takesRequest args := ⟨by decide, by decide, h, by decide⟩
theorem test_witness_LayoutRequestsSetOrRefuse :
    rest.seq.mech ≠ .adjust ∧ wides [0x00, 0x78, 0x06, 0x17] = some [120, 1559] ∧
      120 ≤ 1559 - 120 ∧ wides [0x06, 0x17] = some [1559] ∧ 1559 ∉ rest.settings.tabs ∧
      wides [] = some [] ∧ ([] : List Nat).Pairwise (· < ·) := by decide
theorem test_witness_LayoutRequestsSetOrRefuse_bad :
    wides [0x00, 0x78, 0x00, 0xEF] = some [120, 239] ∧ ¬ 120 ≤ 239 - 120 ∧
      wides [0x06, 0x18] = some [1560] ∧ wides [0x00, 0x02, 0x00, 0x02] = some [2, 2] ∧
      ¬ [2, 2].Pairwise (· < ·) := by decide
theorem test_witness_LayoutRequestsSetOrRefuse_stop :
    let s := { rest with settings := { rest.settings with tabs := List.range 16 } }
    s.live = true ∧ 15 ∈ s.settings.tabs ∧ 16 ∉ s.settings.tabs ∧ 16 ≤ s.settings.tabs.length := by
  decide
theorem test_witness_SettingRequestsSet :
    rest.seq.mech ≠ .adjust ∧ pitchArg 15 = some .fifteen ∧ spacingArg 24 = some .s24 ∧
      modeArg 2 = some .line ∧ formatArg 3 = some .justify ∧ rest.line.settled = true ∧
      volumeArg 0 = some .off := by decide
theorem test_witness_SettingRequestsSet_refused :
    pitchArg 13 = none ∧ spacingArg 9 = none ∧ spellArg 3 = none ∧ volumeArg 3 = none ∧
      modeArg 3 = none ∧ formatArg 4 = none ∧
      (lined rest 1 [glyph 1 120 .pending]).line.settled = false := by decide

theorem test_witness_SpellModeRequestActs :
    spellArg 0 = some .off ∧ spellArg 2 = some .hold ∧ rest.settings.spell ≠ .off := by decide
theorem test_witness_SpellModeRequestActs_on :
    let s := { rest with settings := { rest.settings with spell := .off } }
    let t := lined s 3 [glyph 1 120 .pending, glyph 2 130 .pending,
      { glyph 3 140 .pending with kind := .space, code := none }]
    spellArg 1 = some .alert ∧ t.settings.spell = .off ∧ wordRuns t.line.cells = [(0, 2)] ∧
      openToken t.line.cells t.spell.endClosed 0 = false := by decide
/-- "aa" recorded by each path of R146's table, and a run of 25 cells. -/
theorem test_witness_SpellModeRequestActs_record :
    let s := lined rest 2 [glyph 1 120 .struck, glyph 2 130 .struck]
    let m := { s with spell := { s.spell with main := .present 4096 } }
    let b := { m with spell := { m.spell with port := .bucket .main 7 } }
    let k := { s with retained := { s.retained with words := [[1, 1]] } }
    let f := { b with spell := { b.spell with lookups := List.replicate 8 ⟨0, [1, 1]⟩ } }
    let got (s : State) := (s.recordRun (0, 2)).spell.table.map (·.state)
    s.line.cells[0]? = some (glyph 1 120 .struck) ∧
      [s, m, b, k, f].map got = [[.unchecked], [.looking], [.waiting], [.known], [.unchecked]] ∧
      (s.recordRun (0, 25)).spell.table.map (·.state) = [.skipped] := by decide
/-- A letter appended beside the word cancels its record; the removal of the SPACE does not (R145). -/
theorem test_witness_SpellModeRequestActs_cancel :
    let cs := [glyph 1 120 .pending, glyph 2 130 .pending]
    let sp := { glyph 3 140 .pending with kind := .space, code := none }
    let s (cs : List Cell) := { lined rest 2 cs with
      spell := { rest.spell with table := [unknownWord] } }
    ((s cs).spell.table.map (·.id)).Nodup ∧ unknownWord ∈ (s cs).spell.table ∧
      cellIndex 1 cs = some 0 ∧ cellIndex 1 [glyph 2 130 .pending] = none ∧
      ((s cs).cancelBroken (cs ++ [sp])).spell.table = [unknownWord] ∧
      ((s (cs ++ [glyph 3 140 .pending])).cancelBroken cs).spell.table = [] := by decide

theorem test_witness_WordAndMaskRequests :
    foldCodes [0x74, 0x68, 0x65] = some [20, 8, 5] ∧ wordForm [20, 8, 5] = true ∧
      foldCodes [0x74, 0x27] = some [20, 27] ∧ wordForm [20, 27] = false ∧
      rest.retained.words.length < 48 ∧ [20, 8, 5] ∉ rest.retained.words ∧
      wides [0x3F, 0xFF] = some [2 ^ 14 - 1] ∧ wides [0x40, 0x00] = some [2 ^ 14] := by decide
theorem test_witness_WordAndMaskRequests_full :
    let ws := List.replicate 48 [20, 8, 5]
    48 ≤ ws.length ∧ [20, 8, 5] ∈ ws ∧ [1, 2] ∉ ws := by decide
theorem test_witness_ReadingAndLogRequests :
    rest.seq.mech ≠ .adjust ∧ (1 : Byte).toNat ≤ 1 ∧ rest.retained.pattern.length = 16 := by decide
theorem test_witness_ReadingAndLogRequests_record :
    let s := { rest with link := { rest.link with
      errorLog := some ⟨.kind, some 0x07, none, []⟩, errorCount := 3 } }
    s.link.errorLog = some ⟨.kind, some 0x07, none, []⟩ ∧ rest.link.errorLog = none := by decide

theorem test_witness_PauseAndContinue :
    rest.seq.mech ≠ .starting ∧ rest.seq.mech ≠ .adjust ∧
      (keyed rest 0x19).keys.head?.isSome = true := by decide
theorem test_witness_PauseAndContinue_moves :
    let p := inMech rest .paused
    rest.seq.mech = .idle ∧ rest.causesNow = [] ∧ p.seq.mech = .paused ∧ p.causesNow = [] ∧
      p.strikes.entries = [] := by decide

theorem test_witness_PauseAndContinue_key :
    (keyed rest 0x19).takesKey .printHold ⟨0x19, .key, false⟩ := by
  unfold State.takesKey; decide
theorem test_witness_ResumeBeginsHoming :
    let s := inMech rest .fault
    s.seq.recovering = false ∧ s.inputs.cover.qualified = false ∧ s.wheel.ident = .idle ∧
      s.carrier.move = .none ∧ rest.seq.mech ≠ .fault ∧ rest.seq.mech ≠ .starting := by decide
theorem test_witness_RestartAndToneRequests : toneArg 3 = some .alarm := by decide
theorem test_witness_AdjustEntryAndSteps :
    rest.seq.mech = .idle ∧ rest.line.state = .open ∧ rest.line.cells = [] ∧
      trimArg 2 = some .printOffset ∧ trimStep 0xFF = some (-1) ∧ Trim.printOffset.limit = 3 := by
  decide
theorem test_witness_TestStrikeAndLeaveAdjust :
    let s := { rest with seq := { rest.seq with mech := .adjust, testPos := some 300 } }
    petal s.wheel.family 0x61 = some 64 ∧ s.seq.testStrike = none ∧ s.seq.leaving = false ∧
      s.noCauseForPrint = true ∧ 300 + s.glyphE 0x61 ≤ 1560 ∧ s.wheel.known = true ∧
      s.wheel.angle ≠ petalAngle 64 s.retained.wheelPhase ∧ s.carrier.known = true ∧
      s.carrier.pos ≠ target 300 s.retained.printOffset ∧ s.platen.move = none := by decide
theorem test_witness_TestStrikeAndLeaveAdjust_leave :
    let s := { rest with
      seq := { rest.seq with mech := .adjust, testPos := some 300 }, carrier := ⟨300, true, 0, .none⟩ }
    s.seq.leaving = false ∧ s.carrier.known = true ∧
      s.carrier.pos ≠ target s.line.start s.retained.printOffset := by decide
theorem test_witness_RequestsAreGatedOneAtATime :
    listedCode 0x1C = false ∧ State.reset.seq.mech = .starting ∧ rest.seq.mech = .idle := by decide
theorem test_witness_RequestsAreGatedOneAtATime_busy :
    let s := { rest with link := { rest.link with
      slot := some ⟨0x07, false⟩, transmitter := .sending .answer (frameBytes 0x81 [0x07, 0x00]) } }
    s.live = true ∧ s.link.receiver ≠ .resync ∧ s.link.slot = some ⟨0x07, false⟩ := by decide

/-! ## Witnesses: keys -/

theorem test_witness_AttributeAndFormatKeys :
    (keyed rest 0x15).takesKey .bold ⟨0x15, .key, false⟩ ∧
      (keyed rest 0x16).takesKey .underline ⟨0x16, .key, false⟩ := by
  unfold State.takesKey; decide
theorem test_witness_AttributeAndFormatKeys_line :
    (keyed rest 0x13).takesKey .center ⟨0x13, .key, false⟩ ∧
      (keyed rest 0x14).takesKey .flushRight ⟨0x14, .key, false⟩ ∧
      (keyed rest 0x0E).takesKey .marginRelease ⟨0x0E, .key, false⟩ ∧
      rest.line.state ≠ .returnWait := by unfold State.takesKey; decide
theorem test_witness_LayoutKeysSet :
    (keyed rest 0x0F).takesKey .setLeft ⟨0x0F, .key, false⟩ ∧
      (keyed rest 0x10).takesKey .setRight ⟨0x10, .key, false⟩ ∧
      (keyed rest 0x11).takesKey .tabSet ⟨0x11, .key, false⟩ ∧
      (keyed rest 0x12).takesKey .tabClear ⟨0x12, .key, false⟩ := by
  unfold State.takesKey; decide
theorem test_witness_GraphicCodeAppendsCell :
    let v := (keyed rest 0x61).acting
    (keyed rest 0x61).takesKey .graphic ⟨0x61, .key, false⟩ ∧ v.line.cursor = 0 ∧
      v.line.cells = [] ∧ v.text.aligned = none ∧ (petal v.wheel.family 0x61).isSome = true ∧
      v.line.endPos + v.glyphE 0x61 ≤ v.limit ∧ v.wraps = false ∧ 9 ≤ v.strikeFree ∧
      v.line.run = none := by unfold State.takesKey; decide
theorem test_witness_GraphicCodeAppendsCell_chained :
    (keyed rest 0x61).acting.line.Chained := trivial
/-- Two PENDING cells with the cursor between them. -/
def between : State := lined { rest with settings := { rest.settings with mode := .line } } 1
  [glyph 1 120 .pending, glyph 2 130 .pending]
theorem test_witness_GraphicCodeAppendsCell_insert :
    let v := (keyed between 0x61).acting
    (keyed between 0x61).takesKey .graphic ⟨0x61, .key, false⟩ ∧ v.line.cursor = 1 ∧
      v.line.cells[1]? = some (glyph 2 130 .pending) ∧ v.line.endPos + v.glyphE 0x61 ≤ v.limit ∧
      v.text.aligned = none ∧ v.line.run = none := by unfold State.takesKey; decide
theorem test_witness_GraphicCodeAppendsCell_insert_chained :
    (keyed between 0x61).acting.line.Chained := ⟨rfl, rfl, trivial⟩
/-- A GAP between two STRUCK cells. -/
def gapped : State := lined rest 1 [glyph 1 120 .struck,
  { glyph 2 130 .struck with kind := .gap, code := none, glyphs := 0 }, glyph 3 140 .struck]
theorem test_witness_GraphicCodeAppendsCell_fill :
    let s := keyed gapped 0x61
    s.takesKey .graphic ⟨0x61, .key, false⟩ ∧ s.line.state = .open ∧ s.line.place = .struck ∧
      s.line.liftingAtCursor = false ∧ (petal s.wheel.family 0x61).isSome = true ∧
      s.fits 0x61 10 = true ∧ 5 ≤ s.strikeFree := by unfold State.takesKey; decide
theorem test_witness_GraphicCodeAppendsCell_over :
    let s := keyed (lined rest 1 [glyph 1 120 .struck, glyph 2 130 .struck]) 0x2F
    let c := glyph 1 120 .struck
    s.takesKey .graphic ⟨0x2F, .key, false⟩ ∧ s.line.place = .struck ∧
      s.line.liftingAtCursor = false ∧ (petal s.wheel.family 0x2F).isSome = true ∧
      c.overCode = none ∧ s.wheel.present = true ∧ c.wheelId = some s.wheel.id ∧
      s.fits 0x2F c.e = true ∧ (s.overPlan c 0x2F).length ≤ s.strikeFree := by
  unfold State.takesKey; decide
/-- "a a" typed as far as the right margin in WORD typing. -/
def atMargin : State := lined { rest with
    settings := { rest.settings with mode := .word, left := 120, right := 155, spell := .off } } 3
  [glyph 1 120 .pending, { glyph 2 130 .pending with kind := .space, code := none },
    glyph 3 140 .pending]
theorem test_witness_GraphicCodeAppendsCell_wrap :
    let s := keyed atMargin 0x61
    s.takesKey .graphic ⟨0x61, .key, false⟩ ∧ s.wraps = true ∧ s.line.carryFrom = 2 ∧
      s.line.endPos = 150 ∧ s.settings.right < 150 + s.glyphE 0x61 ∧ s.effMode ≠ .hold ∧
      10 + s.glyphE 0x61 ≤ s.settings.right - s.settings.left ∧ s.line.run = none := by
  unfold State.takesKey; decide
theorem test_witness_GraphicCodeAppendsCell_wrapEnding :
    let s := { rest with text := { rest.text with carry := [glyph 0 140 .pending] } }
    1 ≤ s.strikeFree ∧ (s.petalOf 0x61).isSome = true ∧
      s.settings.left + (s.text.carry.map s.freshE).sum ≤ 1560 := by decide

theorem test_witness_BlankKeysAppendCell :
    let s := { keyed rest 0x02 with settings := { rest.settings with tabs := [300] } }
    (keyed rest 0x20).takesKey .space ⟨0x20, .key, false⟩ ∧
      s.takesKey .tab ⟨0x02, .key, false⟩ ∧ s.acting.findStop s.acting.line.endPos = some 300 ∧
      s.acting.line.endPos = 120 ∧ 300 ≤ s.acting.limit := by unfold State.takesKey; decide
theorem test_witness_BlankKeysAppendCell_decimal :
    let s := { keyed rest 0x03 with settings := { rest.settings with tabs := [300] } }
    s.takesKey .decimalTab ⟨0x03, .key, false⟩ ∧ s.line.state ≠ .returnWait ∧
      s.acting.line.format.isPlaced = false := by unfold State.takesKey; decide
theorem test_witness_RefusedKeysClick :
    (keyed rest 0x1F).takesKey .unknown ⟨0x1F, .key, false⟩ ∧
      (keyed rest 0x02).takesKey .tab ⟨0x02, .key, false⟩ ∧
      (keyed rest 0x02).findStop 120 = none ∧
      petal 9 0x7A = none := by unfold State.takesKey; decide
theorem test_witness_RefusedKeysClick_states :
    let w := { rest with line := { rest.line with state := .returnWait } }
    let r := { rest with line := { rest.line with state := .returned } }
    (keyed w 0x61).takesKey .graphic ⟨0x61, .key, false⟩ ∧
      (keyed r 0x04).takesKey .backspace ⟨0x04, .key, false⟩ ∧
      (keyed r 0x05).takesKey .forward ⟨0x05, .key, false⟩ ∧
      (keyed r 0x06).takesKey .relocate ⟨0x06, .key, false⟩ := by
  unfold State.takesKey; decide
theorem test_witness_ReturnEndsLineAndFeeds :
    (keyed rest 0x01).takesKey .returnKey ⟨0x01, .key, false⟩ ∧ 1 ≤ rest.strikeFree := by
  unfold State.takesKey; decide
theorem test_witness_IndexFeedsOneSpacing :
    (keyed rest 0x0A).takesKey .index ⟨0x0A, .key, false⟩ ∧
      (keyed rest 0x0B).takesKey .reverseIndex ⟨0x0B, .key, false⟩ ∧
      rest.line.settled = true ∧ rest.line.run = none := by unfold State.takesKey; decide
theorem test_witness_HalfLineKeysMoveV :
    let s := { rest with line := { rest.line with v := 4 } }
    (keyed s 0x0D).takesKey .halfDown ⟨0x0D, .key, false⟩ ∧
      (keyed s 0x0C).takesKey .halfUp ⟨0x0C, .key, false⟩ ∧ s.line.v + 4 ≤ 8 := by
  unfold State.takesKey; decide
theorem test_witness_CursorKeysMove :
    let s := lined rest 1 [glyph 1 120 .struck, glyph 2 130 .struck]
    (keyed s 0x04).takesKey .backspace ⟨0x04, .key, false⟩ ∧
      (keyed s 0x05).takesKey .forward ⟨0x05, .key, false⟩ ∧
      (keyed s 0x06).takesKey .relocate ⟨0x06, .key, false⟩ ∧ s.line.state ≠ .returned ∧
      1 ≤ s.line.cursor ∧ s.line.cursor < 2 := by unfold State.takesKey; decide
theorem test_witness_CorrectLiftsOrTakesBack :
    let s := lined rest 1 [glyph 1 120 .struck]
    (keyed s 0x07).takesKey .correct ⟨0x07, .key, false⟩ ∧ (glyph 1 120 .struck).inked = true ∧
      s.wheel.present = true ∧ (glyph 1 120 .struck).wheelId = some s.wheel.id ∧
      compatible .liftTape (glyph 1 120 .struck).ribbon = true ∧
      (s.liftPlan (glyph 1 120 .struck)).length ≤ s.strikeFree := by unfold State.takesKey; decide
theorem test_witness_CorrectLiftsOrTakesBack_refused :
    let s := { lined rest 1 [glyph 1 120 .struck] with
      ribbon := { rest.ribbon with tape := none } }
    s.liftRefusal (glyph 1 120 .struck) = some .tapeAbsent := by decide
theorem test_witness_CorrectLiftsOrTakesBack_queued :
    let s := keyed (lined (printing .position) 1 [glyph 1 120 .queued]) 0x07
    s.takesKey .correct ⟨0x07, .key, false⟩ ∧ s.cellBegun 1 = false ∧
      (keyed rest 0x07).takesKey .correct ⟨0x07, .key, false⟩ ∧ rest.line.cursor = 0 := by
  unfold State.takesKey; decide
theorem test_witness_CorrectLiftsOrTakesBack_inside :
    let c := { glyph 1 120 .queued with prior := some .struck, overCode := some 0x2F }
    let g := { glyph 1 120 .queued with prior := some (.gap none none none false false) }
    let s (c : Cell) := keyed (lined rest 1 [c, glyph 2 130 .struck]) 0x07
    (s c).takesKey .correct ⟨0x07, .key, false⟩ ∧ (s c).cellBegun 1 = false ∧
      (s g).takesKey .correct ⟨0x07, .key, false⟩ ∧ (s g).cellBegun 1 = false ∧
      (s (glyph 1 120 .queued)).takesKey .correct ⟨0x07, .key, false⟩ := by
  unfold State.takesKey; decide
theorem test_witness_CorrectLiftsOrTakesBack_bare :
    let c := { glyph 1 120 .struck with kind := .space, code := none, glyphs := 0 }
    c.inked = false ∧
      (keyed (lined rest 1 [c]) 0x07).takesKey .correct ⟨0x07, .key, false⟩ ∧
      (keyed (lined rest 1 [c, glyph 2 130 .struck]) 0x07).takesKey .correct
        ⟨0x07, .key, false⟩ := by unfold State.takesKey; decide
theorem test_witness_CorrectLiftsOrTakesBack_pending :
    let s := keyed between 0x07
    let r := keyed { between with settings := { between.settings with right := 125 } } 0x07
    s.takesKey .correct ⟨0x07, .key, false⟩ ∧ s.line.endPos = 140 ∧ 130 ≤ s.limit ∧
      r.takesKey .correct ⟨0x07, .key, false⟩ ∧ r.limit < 130 := by unfold State.takesKey; decide
theorem test_witness_CorrectLiftsOrTakesBack_chained :
    (keyed between 0x07).line.Chained := ⟨rfl, rfl, trivial⟩
theorem test_witness_CorrectLiftsOrTakesBack_returned :
    let r := lined { rest with line := { rest.line with
      state := .returned, baselineOff := some 0, returnFeed := some 8, returnId := some 1 } } 1
      [glyph 1 120 .struck]
    let w := { r with strikes := ⟨[{ Entry.plain .ret with id := 1, first := true, last := true }], 1⟩ }
    let c := glyph 1 120 .struck
    (keyed r 0x07).takesKey .correct ⟨0x07, .key, false⟩ ∧ r.liftRefusal c = none ∧
      r.returnWithdrawable = false ∧ (r.liftPlan c).length + 1 ≤ r.strikeFree ∧
      (keyed w 0x07).takesKey .correct ⟨0x07, .key, false⟩ ∧ w.liftRefusal c = none ∧
      w.returnWithdrawable = true := by unfold State.takesKey; decide

theorem test_witness_ErasesDeletePendingCells :
    let s := lined rest 2 [glyph 1 120 .pending, glyph 2 130 .pending]
    (keyed s 0x08).takesKey .wordErase ⟨0x08, .key, false⟩ ∧
      (keyed s 0x09).takesKey .lineErase ⟨0x09, .key, false⟩ ∧
      (∀ d ∈ s.line.cells, d.state = .pending) ∧ s.text.aligned = none := by
  unfold State.takesKey; decide
theorem test_witness_ErasesDeletePendingCells_chained :
    between.line.Chained ∧ between.line.endPos ≤ between.limit := ⟨⟨rfl, rfl, trivial⟩, by decide⟩
theorem test_witness_ErasesDeletePendingCells_step :
    let s := { between with text := { between.text with erase := some ⟨.line, 0⟩ } }
    s.live = true ∧ s.text.erase = some ⟨.line, 0⟩ ∧ 1 ≤ s.line.cursor ∧
      s.line.state ≠ .returned ∧ (∀ d ∈ s.line.cells, d.state = .pending) ∧
      s.text.aligned = none := by decide

theorem test_witness_WordKeysPassWords :
    let s := { rest with spell := { rest.spell with table := [unknownWord] } }
    (keyed s 0x17).takesKey .acceptWord ⟨0x17, .key, false⟩ ∧
      (keyed s 0x18).takesKey .addWord ⟨0x18, .key, false⟩ ∧
      s.wordTarget = some unknownWord ∧ rest.wordTarget = none := by unfold State.takesKey; decide
/-- R155's table: the last word in ALERT, the first kept back in HOLD; and a full list. -/
theorem test_witness_WordKeysPassWords_targets :
    let w (n : Nat) : WordRecord := { unknownWord with id := n, first := n, letters := some [1, n] }
    let c (n : Nat) : Cell := { glyph n 120 .pending with wordId := some n }
    let s (m : SpellMode) := { lined rest 2 [c 1, c 2] with
      settings := { rest.settings with mode := .word, spell := m }
      spell := { rest.spell with table := [w 1, w 2] } }
    let f := { keyed (s .hold) 0x18 with
      retained := { rest.retained with words := List.replicate 48 [2, 2] } }
    (s .off).wordTarget = none ∧ (s .alert).wordTarget = some (w 2) ∧
      (s .hold).wordTarget = some (w 1) ∧ (([w 1, w 2] : List WordRecord).map (·.id)).Nodup ∧
      f.takesKey .addWord ⟨0x18, .key, false⟩ ∧ f.wordTarget = some (w 1) ∧
      48 ≤ f.retained.words.length ∧ ¬ ([1, 1] ∈ f.retained.words) := by
  unfold State.takesKey; decide

/-! ## Witnesses: runs, the mechanism and the rest -/

theorem test_witness_RunReleasesCellsNotHeld :
    let c := glyph 1 120 .pending
    let s := { lined rest 1 [c] with
      line := { rest.line with cursor := 1, cells := [c], run := some ⟨1, .none⟩ } }
    s.live = true ∧ s.line.firstPending = 0 ∧ s.keptBack 0 = false ∧
      (s.releasePlan c).length ≤ s.strikeFree := by decide
theorem test_witness_RunReleasesCellsNotHeld_held :
    let c := glyph 1 120 .pending
    let s := { rest with
      settings := { rest.settings with mode := .word, spell := .hold },
      line := { rest.line with cursor := 1, cells := [c], run := some ⟨1, .none⟩ } }
    s.line.firstPending = 0 ∧ s.keptBack 0 = true := by decide
theorem test_witness_RunReleasesCellsNotHeld_wrap :
    let s := { rest with spell := { rest.spell with endClosed := true } }
    let b := glyph 2 130 .pending
    let j := lined { rest with
      settings := { rest.settings with mode := .line }
      line := { rest.line with format := .justify, wrapped := true } } 2
      [glyph 1 120 .pending, { b with kind := .space, code := none }]
    s.anyHeldWord = false ∧ s.spell.endClosed = true ∧ j.settings.mode = .line ∧
      j.line.format = .justify ∧ j.line.wrapped = true ∧
      (∀ d ∈ j.line.cells, d.state = .pending) ∧ j.justify.spell.endClosed = true := by decide
/-- R153 and R154: a wrap's run that waits for room while the mode becomes HOLD is blocked by a word that
is not known. -/
theorem test_wrap_run_blocked_by_later_hold :
    let w := { glyph 1 120 .pending with wordId := some 3 }
    let s := { rest with
      settings := { rest.settings with mode := .word, spell := .hold }
      spell := { rest.spell with table := [unknownWord] }
      line := { rest.line with run := some ⟨1, .wrap⟩, cells :=
        [w, { glyph 2 130 .pending with kind := .space, code := none }] } }
    s.runStatus = .blocked := by decide
theorem test_witness_GroupsGoAndComeWhole :
    ([Entry.plain .move]).length ≤ rest.strikeFree ∧ rest.strikes.entries.length ≤ 32 := by decide
theorem test_witness_CarrierMoveIsChecked :
    let s := { printing .position with carrier := ⟨120, true, 0, .moving 130⟩ }
    s.live = true ∧ s.carrier.move = .moving 130 ∧ 130 / 6 - 120 / 6 = 1 := by decide
/-- R95's count of a move from 305 to 1000: 166 − 50. -/
theorem test_expected_marks : expectedMarks 305 1000 = 116 := by decide
theorem test_witness_CarrierMoveIsChecked_homing :
    let s := { inMech rest .fault with carrier := ⟨0, true, 0, .homing (.toMargin 120)⟩ }
    let r := { s with seq := { s.seq with recovering := true } }
    let b := { s with seq := { s.seq with mech := .starting, startup := some ⟨.cold, false, true, true⟩ } }
    s.seq.startup = none ∧ s.seq.recovering = false ∧ r.seq.recovering = true ∧
      b.seq.mech = .starting ∧ b.spell.headersRead = true ∧ 120 / 6 = 20 := by decide

theorem test_witness_HomingFindsPositionZero :
    State.reset.live = true ∧ State.reset.carrier.move = .homing .search ∧
      ({ rest with carrier := ⟨0, false, 0, .homing .offSwitch⟩ } : State).carrier.move =
        .homing .offSwitch := by decide
theorem test_witness_RotationAndPlatenReckoning :
    let s := { printing .position with
      wheel := { rest.wheel with move := some 1024 }, platen := ⟨0, some ⟨2147483647, .keep⟩⟩ }
    s.live = true ∧ s.wheel.move = some 1024 ∧ s.platen.move = some ⟨2147483647, .keep⟩ := by decide
theorem test_witness_RotationAndPlatenReckoning_kinds :
    let p := { Entry.plain .print with voff := some (-4) }
    let f := { Entry.plain .feed with feed := some 8, offsetAfter := some 4 }
    p.kind.striking = true ∧ p.voff = some (-4) ∧ (Entry.plain .move).kind = .move ∧
      f.kind = .feed ∧ f.feed = some 8 ∧ f.offsetAfter = some 4 ∧
      ({ Entry.plain .ret with feed := some 8 } : Entry).feed = some 8 := by decide
/-- A PRINT at another place, a RETURN and a FEED at the head of a boundary (R76). -/
theorem test_witness_RotationAndPlatenReckoning_begins :
    let e : Entry := { Entry.plain .print with
      x := some 130, voff := some 0, petal := some 64, energy := some 9, wheelId := some 2 }
    let r : Entry := { Entry.plain .ret with x := some 130, feed := some 8 }
    let s (e : Entry) := { rest with strikes := ⟨[e], 1⟩ }
    (s e).atBoundary = true ∧ (s e).causesNow = [] ∧ (s e).seq.pause = false ∧
      (s e).seq.inFlight = none ∧ (s e).wheel.known = true ∧ (s e).carrier.known = true ∧
      (s e).carrier.move = .none ∧ (s e).wheel.move = none ∧ (s e).platen.move = none ∧
      (s e).platen.counter = (s e).seq.platenTarget e ∧ (s e).carrier.pos ≠ 130 ∧
      (s r).causesNow = [] ∧ (s r).platen.counter ≠ (s r).seq.platenTarget r ∧
      (s (feedEntry 8 0)).platen.counter ≠ (s (feedEntry 8 0)).seq.platenTarget (feedEntry 8 0) := by
  decide
/-- The last motion of a PRINT and of a RETURN in POSITION, with the marks due. -/
theorem test_witness_RotationAndPlatenReckoning_ends :
    let s := printing .position
    let c := { s with carrier := ⟨120, true, 1, .moving 130⟩ }
    let w := { s with wheel := { s.wheel with move := some 1024 } }
    let r := { s with
      strikes := ⟨[{ Entry.plain .ret with x := some 120, feed := some 8 }], 1⟩
      platen := ⟨0, some ⟨8, .ret⟩⟩ }
    let m := { s with platen := ⟨4, some ⟨0, .keep⟩⟩ }
    s.live = true ∧ s.seq.testStrike = none ∧ s.seq.draining = false ∧ s.seq.leaving = false ∧
      s.carrier.known = true ∧ s.strikes.entries.map (fun e => (e.kind, e.x, e.energy)) =
        [(.print, some 130, some 9)] ∧
      c.carrier.move = .moving 130 ∧ 130 / 6 - 120 / 6 ≤ min 1600 (1 + 0) + 1 ∧
      w.wheel.move = some 1024 ∧ w.carrier.move = .none ∧
      r.platen.move = some ⟨8, .ret⟩ ∧ m.platen.move = some ⟨0, .keep⟩ ∧ m.carrier.pos ≠ 130 := by
  decide

/-- A head entry kept fired, a LIFT for wheel 3 of a group not begun and of one begun, and a PRINT with
the wheel angle not known, each at a boundary (R86, R90, R96). -/
theorem test_witness_RotationAndPlatenReckoning_heads :
    let s (es : List Entry) := { lined rest 1 [glyph 1 120 .lifting] with strikes := ⟨es, 2⟩ }
    let p : Entry := { Entry.plain .print with id := 1, width := some 10, first := true, last := true }
    let l : Entry := { p with kind := .lift, wheelId := some 3, cell := some 1 }
    let a := { s [p] with seq := { rest.seq with inFlight := some ⟨0, true⟩ } }
    let w := s [{ l with id := 0, last := false }, { l with first := false }]
    let h := s [{ l with first := false }]
    let f := { s [p] with wheel := { rest.wheel with known := false } }
    (∀ x ∈ [a, w, h, f], x.atBoundary = true ∧ x.causesNow = [] ∧ x.seq.pause = false ∧
      x.seq.stage = none ∧ x.seq.draining = false ∧ x.seq.testStrike = none ∧
      x.text.erase = none ∧ x.line.run = none ∧ (x.strikes.entries.map (·.id)).Nodup) ∧
      a.sequence.seq.stage = some .advance ∧ w.decideState.strikes.entries = [] ∧
      w.decideState.line.cells.map (·.state) = [.struck] ∧ h.sequence.seq.causes = [.noWheel] ∧
      f.wheel.known = false ∧ f.sequence.seq.fault = some .wheelHome := by decide

theorem test_witness_FireNeedsRoomInHeatAccount :
    let s := { printing .heatWait with hammer := ⟨586, true, some 14, none⟩ }
    s.live = true ∧ s.hammer.request = some 14 ∧ s.entry.isSome = true ∧
      s.hammer.heat + 14 ≤ 600 ∧ s.inputs.hammerHome.qualified = true := by decide
theorem test_second_ink_is_recorded :
    let e : Entry := { Entry.plain .print with first := false }
    firedRibbon e (some .fabric) (some .film) = some .fabric ∧
      firedRibbon e (some .film) (some .multi) = some .multi ∧
      firedRibbon { e with first := true } (some .film) (some .multi) = some .film := by decide
theorem test_witness_PulseThenSettleThenAdvance :
    let s := { printing .fire with hammer := ⟨14, true, none, some 14⟩ }
    s.live = true ∧ s.hammer.pulse = some 14 ∧ s.seq.stage = some .fire := by decide
theorem test_witness_PulseThenSettleThenAdvance_settle :
    let s := printing .settle
    s.live = true ∧ s.seq.stage = some .settle ∧ s.inputs.hammerHome.raw = true ∧
      (s.entry.map fun e => advanceSteps e s.ribbon.kind s.ribbon.tape) = some 10 := by decide
theorem test_witness_PulseThenSettleThenAdvance_width :
    let s := printing .settle
    let a := { s with ribbon := { s.ribbon with kind := none } }
    s.entry.bind (·.width) = some 10 ∧ a.entry.bind (·.width) = some 10 ∧
      a.inputs.hammerHome.raw = true ∧ a.ribbon.kind = none := by decide

theorem test_witness_AdvanceCompletesEntry :
    let s := printing .advance
    s.live = true ∧ s.seq.testStrike = none ∧ s.strikes.entries.length = 1 ∧
      s.line.find 1 = some (glyph 1 120 .striking) := by decide
theorem test_witness_AdvanceCompletesEntry_lift :
    let s := { lined (printing .advance) 1 [glyph 1 120 .lifting, glyph 2 130 .struck] with
      strikes := ⟨[{ Entry.plain .lift with cell := some 1, first := true, last := true }], 1⟩ }
    let t := lined s 1 [glyph 1 120 .lifting]
    s.line.find 1 = some (glyph 1 120 .lifting) ∧ cellIndex 1 s.line.cells = some 0 ∧
      cellIndex 1 t.line.cells = some 0 ∧ t.line.cells.length = 1 ∧
      ({ glyph 1 120 .lifting with glyphs := 2 } : Cell).glyphs = 2 := by decide

theorem test_witness_DecayEventsCoolTheCoil :
    let s := { printing .heatWait with hammer := ⟨587, true, some 14, none⟩ }
    s.live = true ∧ s.hammer.decay = true ∧ s.hammer.request = some 14 ∧ 587 - 1 + 14 ≤ 600 ∧
      rest.carrier.move = .none := by decide
theorem test_witness_NotchesAreHeldAndClassified :
    let s := { rest with wheel := { rest.wheel with ident := .reading [true], holding := some 6 } }
    s.live = true ∧ s.wheel.ident = .reading [true] ∧ s.wheel.holding = some 6 ∧
      s.wheel.failedReads < 2 := by decide
theorem test_witness_NotchesAreHeldAndClassified_search :
    State.reset.wheel.ident = .searching false ∧ State.reset.wheel.holding = none := by decide
/-- A read in progress of a width at each edge of R97's classes, its third failure due. -/
theorem test_witness_NotchesAreHeldAndClassified_classes :
    let s (v : Nat) := { rest with wheel := { rest.wheel with
      ident := .reading [true], holding := some v, failedReads := 2 } }
    (∀ v ∈ [0, 1, 2, 3, 4, 9, 10, 11, 12, 20, 21, 27, 28, 40, 41],
      (s v).wheel.ident = .reading [true] ∧ (s v).wheel.holding = some v) ∧
      ([true] : List Bool).length < 3 ∧ (s 0).live = true ∧ 2 ≤ (s 0).wheel.failedReads := by
  decide
/-- R98: the third invalid read takes WHEEL_ID. -/
theorem test_third_failed_read :
    (match exec .notchClassified { rest with wheel := { rest.wheel with
        ident := .reading [true], holding := some 21, failedReads := 2 } } with
     | .next t => (t.seq.fault, t.wheel.present, decide (t.wheel.ident = .idle))
     | _ => (none, true, false)) = (some .wheelId, false, true) := by decide

theorem test_witness_IdentificationReadsId :
    let s := { rest with wheel := { rest.wheel with
      ident := .reading [false, false, true], holding := some 15 } }
    s.live = true ∧ s.wheel.ident = .reading [false, false, true] ∧ notchClass 15 = .wide ∧
      notchClass 6 = .narrow := by decide
theorem test_witness_IdentificationReadsId_change :
    let s := lined rest 2 [glyph 1 120 .struck, glyph 2 130 .queued]
    s.line.returnedFrom = 1 ∧ (s.line.cells.map (·.id)).Nodup ∧ s.seq.startup = none ∧
      130 + ([glyph 2 130 .queued].map s.freshE).sum ≤ 1560 ∧
      (s.petalOf 0x61).isSome = true := by decide
theorem test_witness_IdentificationReadsId_outside :
    let struckOver := { glyph 1 120 .queued with prior := some .struck }
    let lift := { glyph 1 120 .lifting with wheelId := some 3 }
    rest.cellBegun 1 = false ∧ struckOver.prior = some .struck ∧ lift.wheelId ≠ some rest.wheel.id ∧
      ({ rest with wheel := { rest.wheel with family := 9 } } : State).petalOf 0x7A = none := by decide
/-- A recovery whose read ends, with the ALARM sounding, and searches at their limit. -/
theorem test_witness_IdentificationReadsId_recovers :
    let a : State := { inMech rest .fault with
      seq := { rest.seq with mech := .fault, fault := some .wheelHome, recovering := true }
      tone := ⟨some ⟨.alarm, true⟩, none⟩
      wheel := { rest.wheel with ident := .reading [false, false, true], holding := some 6 } }
    let b := { a with wheel := { a.wheel with ident := .searching false } }
    let c := { a with wheel := { a.wheel with ident := .searching true } }
    let d := { b with seq := { b.seq with startup := some ⟨.cold, true, false, true⟩ } }
    a.live = true ∧ a.seq.recovering = true ∧ a.wheel.ident = .reading [false, false, true] ∧
      8 * bit false + 4 * bit false + 2 * bit true + bit false = a.wheel.id ∧
      b.wheel.ident = .searching false ∧ c.wheel.ident = .searching true ∧
      d.spell.main ≠ .notRead ∧ d.spell.supplement ≠ .notRead := by decide

theorem test_witness_InputsAreQualified :
    let s := { rest with inputs := { rest.inputs with paper := ⟨true, false, true⟩ } }
    s.live = true ∧ (rest.inputs.get .paper).raw ≠ true ∧ (s.inputs.get .paper).timing = true := by
  decide
/-- Boundaries with a cause, with none, and a stage in which the state stays (R75, R83 to R85). -/
theorem test_witness_InputsAreQualified_halts :
    let p := { rest with inputs := { rest.inputs with paper := ⟨true, true, false⟩ } }
    let h := inMech rest .halted
    p.causesNow = [.paperOut] ∧ p.seq.mech = .idle ∧ h.causesNow = [] ∧ h.strikes.entries = [] ∧
      (printing .fire).seq.mech = .running ∧ (printing .fire).seq.stage ≠ none ∧
      (h.sequence.seq.mech, h.sequence.notices.rows.cleared.data) = (.idle, [0]) ∧
      (p.sequence.seq.mech, p.sequence.notices.rows.halt.data) = (.halted, [2]) := by decide
theorem test_witness_CoverStopsTheEntry :
    let s := { printing .heatWait with inputs := { rest.inputs with cover := ⟨true, false, true⟩ } }
    s.live = true ∧ s.inputs.cover.timing = true ∧ s.inputs.cover.raw ≠ s.inputs.cover.qualified ∧
      s.seq.leaving = false ∧ s.seq.testStrike = none := by decide
theorem test_witness_CoverStopsTheEntry_moving :
    let s := { printing .position with
      inputs := { rest.inputs with cover := ⟨true, false, true⟩ }
      carrier := ⟨120, true, 3, .moving 130⟩
      wheel := { rest.wheel with move := some 1024 }
      platen := ⟨0, some ⟨8, .keep⟩⟩ }
    s.seq.stage = some .position ∧ s.carrier.move = .moving 130 ∧ s.wheel.move = some 1024 ∧
      s.platen.move = some ⟨8, .keep⟩ := by decide
theorem test_witness_CoverStopsTheEntry_leaving :
    let s := { rest with
      seq := { rest.seq with mech := .adjust, leaving := true }
      inputs := { rest.inputs with cover := ⟨true, false, true⟩ }
      carrier := ⟨300, true, 3, .moving 120⟩
      wheel := { rest.wheel with move := some 1024 } }
    s.seq.leaving = true ∧ s.carrier.move = .moving 120 ∧ s.wheel.move = some 1024 := by decide

theorem test_witness_CoverStopsTheEntry_close :
    let s := { rest with inputs := { rest.inputs with cover := ⟨false, true, true⟩ } }
    s.inputs.cover.raw ≠ s.inputs.cover.qualified ∧ s.inputs.cover.raw = false := by decide
theorem test_witness_SensingSetsKinds :
    let s := { rest with ribbon := { rest.ribbon with
      sensing := some ⟨some ⟨false, true, true, false⟩, 3, 49⟩ } }
    s.live = true ∧ s.ribbon.sensing = some ⟨some ⟨false, true, true, false⟩, 3, 49⟩ := by decide
theorem test_witness_DictionaryReadsAreJudged :
    State.reset.live = true ∧ State.reset.spell.port = .header .main ∧
      State.reset.spell.supplement = .notRead := by decide
theorem test_witness_DictionaryReadsAreJudged_supplement :
    let s := { State.reset with
      spell := { State.reset.spell with port := .header .supplement, main := .present 4096 }
      seq := { State.reset.seq with startup := some ⟨.cold, true, true, true⟩ } }
    s.live = true ∧ s.spell.port = .header .supplement ∧ s.spell.lookups = [] ∧
      s.seq.mech = .starting ∧ s.spell.main ≠ .notRead := by decide
theorem test_witness_DictionaryReadsAreJudged_bucket :
    let data : List Byte := 0xB1 :: 0xC4 :: List.replicate 30 0xFF
    data.length = 32 ∧ (wides data).bind (·[0]?) = some (signature [20, 25, 16, 5]) := by decide
theorem test_witness_DictionaryReadsAreJudged_lookup :
    let s := { rest with spell := { rest.spell with
      table := [⟨3, 1, 4, some [20, 25, 16, 5], .looking, false⟩],
      lookup := some ⟨3, [20, 25, 16, 5], false, .main, 0⟩, port := .bucket .main 7 } }
    s.live = true ∧ s.spell.port = .bucket .main 7 ∧ s.spell.lookups = [] ∧
      s.spell.table.any (·.id = 3) = true := by decide
/-- A bucket with an empty slot, one full without the word, and one that chains on (R150). -/
theorem test_witness_DictionaryReadsAreJudged_misses :
    let l : Lookup := ⟨3, [20, 25, 16, 5], false, .main, 0⟩
    let s := { rest with spell := { rest.spell with
      table := [⟨3, 1, 4, some [20, 25, 16, 5], .looking, false⟩]
      main := .present 4096, lookup := some l, port := .bucket .main 7 } }
    let stop : List Byte := List.replicate 32 0xFF
    let full (hi lo : Byte) : List Byte := List.replicate 30 0x11 ++ [hi, lo]
    let after (d : List Byte) := match exec (.dictReadComplete d) s with
      | .next t => (t.spell.table.map (·.state), t.notices.rows.dict.raised, t.spell.port)
      | _ => ([], false, .idle)
    s.live = true ∧ s.spell.lookups = [] ∧ (s.spell.record 3).map (·.accepted) = some false ∧
      (wides stop).bind (·[0]?) = some 0xFFFF ∧ (wides (full 0x10 0x00)).bind (·[15]?) = some 4096 ∧
      after stop = ([.unknown], false, .idle) ∧ after (full 0x10 0x00) = ([.unknown], true, .idle) ∧
      after (full 0x0F 0xFF) = ([.looking], false, .bucket .main 4095) := by decide
theorem test_witness_RendersKeepTheWindow :
    let s := { rest with display := { rest.display with slotTimer := some 3000 } }
    s.live = true ∧ s.display.slotTimer.isSome = true ∧ s.display.sending = true := by decide
theorem test_witness_RendersKeepTheWindow_told :
    let s := { rest with display := { rest.display with told := true, cursorTold := true } }
    s.display.told = true ∧ s.display.cursorTold = true := by decide

theorem test_witness_ToneRequestsFollowTable :
    let s := { rest with tone := ⟨some ⟨.bell, false⟩, some ⟨.click, false⟩⟩ }
    s.live = true ∧ s.tone.sounding = some ⟨.bell, false⟩ ∧ rest.settings.volume ≠ .off := by decide
theorem test_witness_LiftEntriesCarryOneEnergy :
    (glyph 1 120 .struck).energy = some 9 ∧ (rest.liftPlan (glyph 1 120 .struck)).length = 1 := by
  decide
/-- A bold underlined 'a' of ten steps: two glyph strikes and one underscore, lifted alike. -/
theorem test_witness_LiftEntriesCarryOneEnergy_plans :
    let c := { glyph 1 120 .struck with bold := true, underline := true }
    c.e ≤ 36 ∧ c.wheelId = some 2 ∧ rest.ribbon.tape = some .liftTape ∧
      (rest.releasePlan c).map (fun e => (e.kind, e.x, e.energy)) =
        [(.print, some 120, some 9), (.print, some 121, some 7), (.underscore, some 120, some 9)] ∧
      (rest.liftPlan c).map (·.energy) = [some 13, some 13, some 13] ∧
      (rest.overPlan c 0x2F).length = 2 := by decide
theorem test_witness_UnderscoresCoverTheCell :
    (0 : Nat) < 8 ∧ (7 : Nat) < 8 ∧ (8 : Nat) ≤ 8 := by decide
theorem test_witness_WholeLineIsPlaced :
    let s := lined { rest with line := { rest.line with format := .center } } 1
      [glyph 1 120 .pending]
    s.line.format.isPlaced = true ∧ (∀ c ∈ s.line.cells, c.state = .pending) := by decide
/-- Trailing SPACE cells, and a line too wide for the place right of L. -/
theorem test_witness_WholeLineIsPlaced_edges :
    let c := { rest with line := { rest.line with format := .center, run := some ⟨2, .none⟩ } }
    let s := lined c 2
      [glyph 1 120 .pending, { glyph 2 130 .pending with kind := .space, code := none }]
    let w := lined c 1 [{ glyph 1 120 .pending with e := 1500 }]
    s.line.format.isPlaced = true ∧ (∀ d ∈ s.line.cells, d.state = .pending) ∧
      (∀ d ∈ w.line.cells, d.state = .pending) ∧ 1560 < w.settings.left + 1500 ∧
      s.line.run = some ⟨2, .none⟩ := by decide

/-! ## Witnesses: the invariants -/

/-- A state that meets every invariant and takes a step. -/
theorem test_witness_invariants :
    rest.hammer.heat ≤ 600 ∧ rest.strikes.entries.length ≤ 32 ∧ rest.keys.length ≤ 64 ∧
      rest.line.cursor ≤ rest.line.cells.length ∧ rest.line.cells.length ≤ 160 ∧
      rest.display.origin ≤ rest.line.cursor ∧ rest.settings = rest.retained.settings := by decide
theorem test_witness_invariants_step :
    (match step { keyed rest 0x15 with pending := [.bold] } with
     | .next t => t.text.bold | _ => false) = true := by decide
/-- A part whose one cell, in the record and in the Strike Queue, is being printed. -/
def striking : State := lined (printing .fire) 1 [glyph 1 120 .striking]
/-- It meets the laws of the Line Record. -/
theorem test_witness_invariants_line : striking.LineSound ∧ striking.LineBounded := by
  refine ⟨⟨⟨rfl, trivial⟩, by decide, by decide, by decide, ?_, by unfold Cell.inWork; decide,
    by decide, by decide, ?_, fun _ h => (nomatch h), by decide, by decide, by decide⟩,
    by unfold State.LineBounded; decide⟩
  · intro e he id h
    obtain rfl := List.mem_singleton.mp he
    exact ⟨_, List.mem_singleton_self _, Option.some.inj h, .inr (.inl rfl)⟩
  · intro i e h
    match i, h with
    | 0, h =>
      obtain rfl := Option.some.inj h
      exact ⟨fun l => (nomatch l), fun _ j f lt h => by
        match j, lt, h with | _ + 1, _, h => nomatch h⟩
    | _ + 1, h => nomatch h
theorem test_witness_ErrorLogKeepsFirstFrame :
    let s := { rest with link := { rest.link with
      errorLog := some ⟨.kind, some 0x07, none, []⟩, errorCount := 255 } }
    s.link.errorLog.isSome = true ∧ 1 ≤ s.link.errorCount ∧ s.link.errorCount ≤ 255 := by decide

end Sys2Proof.Tests
end

