-- ==== Sys2Proof/Proofs/Underscores.lean ====
section
/-! Proofs about the underscores of a cell (R58). A wide cell takes strikes at x + j × Wu for j below
n = (e − 1) / Wu, and one more at x + e − Wu; all that R58 says of them follows from n × Wu < e ≤
(n + 1) × Wu. -/

namespace Sys2Proof.Machine

/-! ## The underscore width and the petal -/

theorem underscoreWidth_of_unit {p : EffPitch} {f : Nat} (family : Nat) (hf : p.unit = some f) :
    underscoreWidth family p = f := by
  simp [underscoreWidth, hf]

theorem underscoreUnits_bounds (family : Nat) :
    8 ≤ underscoreUnits family ∧ underscoreUnits family ≤ 12 := by
  unfold underscoreUnits
  split_ifs <;> decide

theorem EffPitch.unit_bounds {p : EffPitch} {f : Nat} (hf : p.unit = some f) : 8 ≤ f ∧ f ≤ 12 := by
  cases p <;> cases hf <;> decide

theorem underscoreWidth_bounds (family : Nat) (p : EffPitch) :
    8 ≤ underscoreWidth family p ∧ underscoreWidth family p ≤ 12 := by
  cases hf : p.unit with
  | none => simpa [underscoreWidth, hf] using underscoreUnits_bounds family
  | some f => simpa [underscoreWidth_of_unit family hf] using EffPitch.unit_bounds hf

/-- '_' is graphic, is none of the codes the Technical wheel lacks, and has its petal by its code. -/
theorem petal_underscoreCode (family : Nat) : petal family underscoreCode = some 62 := by
  simp [petal, underscoreCode, isGraphic, technicalLacks]

/-! ## The strikes of R58 -/

@[simp] theorem regularStrikes_length (x wu n : Nat) : (regularStrikes x wu n).length = n := by
  simp [regularStrikes]

theorem regularStrikes_getElem? {x wu n j : Nat} (hj : j < n) :
    (regularStrikes x wu n)[j]? = some (x + j * wu) := by
  simp [regularStrikes, hj]

theorem underscoreXs_narrow {x e wu : Nat} (he : e < wu) : underscoreXs x e wu = [x] :=
  if_pos he

/-- ceil(e / Wu) is one more than (e − 1) / Wu, the count of the strikes before the last. -/
theorem underscoreCount_eq {e wu : Nat} (hwu : 0 < wu) (he : wu ≤ e) :
    (e + wu - 1) / wu = (e - 1) / wu + 1 := by
  rw [Nat.sub_add_comm (by omega), Nat.add_div_right _ hwu]

theorem underscoreXs_wide (x : Nat) {e wu : Nat} (hwu : 0 < wu) (he : wu ≤ e) :
    underscoreXs x e wu = regularStrikes x wu ((e - 1) / wu) ++ [x + e - wu] := by
  rw [underscoreXs, if_neg (by omega), underscoreCount_eq hwu he, Nat.add_sub_cancel]

/-- The strikes before the last end short of e, and the last one reaches it. -/
theorem underscoreCount_spec {e wu : Nat} (hwu : 0 < wu) (he : wu ≤ e) :
    (e - 1) / wu * wu < e ∧ e ≤ (e - 1) / wu * wu + wu := by
  have below := Nat.div_mul_le_self (e - 1) wu
  have above := Nat.lt_div_mul_add (a := e - 1) hwu
  omega

section Wide

variable {x e wu : Nat} (hwu : 0 < wu) (he : wu ≤ e)
include hwu he

theorem underscoreXs_length_wide :
    (underscoreXs x e wu).length = (e - 1) / wu + 1 := by
  simp [underscoreXs_wide x hwu he]

theorem underscoreXs_getElem?_regular {j : Nat} (hj : j < (e - 1) / wu) :
    (underscoreXs x e wu)[j]? = some (x + j * wu) := by
  rw [underscoreXs_wide x hwu he, List.getElem?_append_left (by simpa using hj),
    regularStrikes_getElem? hj]

theorem underscoreXs_getElem?_last :
    (underscoreXs x e wu)[(e - 1) / wu]? = some (x + e - wu) := by
  simp [underscoreXs_wide x hwu he]

theorem underscoreXs_getLast?_wide : (underscoreXs x e wu).getLast? = some (x + e - wu) := by
  simp [underscoreXs_wide x hwu he]

/-- Either the first strike is a regular one, or it is the only one and e is Wu. -/
theorem underscoreXs_head?_wide : (underscoreXs x e wu).head? = some x := by
  rw [List.head?_eq_getElem?]
  rcases Nat.eq_zero_or_pos ((e - 1) / wu) with none_regular | some_regular
  · have ⟨_, reach⟩ := underscoreCount_spec hwu he
    have last := underscoreXs_getElem?_last (x := x) hwu he
    rw [none_regular] at last reach
    rw [last, show x + e - wu = x by omega]
  · simpa using underscoreXs_getElem?_regular (x := x) hwu he some_regular

/-- Two regular strikes are Wu apart; the last one stands less than Wu back from where a regular one
would. -/
theorem underscoreXs_spacing {i a b : Nat} (ha : (underscoreXs x e wu)[i]? = some a)
    (hb : (underscoreXs x e wu)[i + 1]? = some b) : a < b ∧ b ≤ a + wu := by
  have next_lt : i + 1 < (e - 1) / wu + 1 := by
    rw [← underscoreXs_length_wide (x := x) hwu he]
    exact (List.getElem?_eq_some_iff.mp hb).1
  rw [underscoreXs_getElem?_regular hwu he (by omega), Option.some_inj] at ha
  have next_offset : (i + 1) * wu = i * wu + wu := Nat.succ_mul i wu
  rcases Nat.lt_or_eq_of_le (Nat.le_of_lt_succ next_lt) with regular | last
  · rw [underscoreXs_getElem?_regular hwu he regular, Option.some_inj] at hb
    omega
  · have ⟨short, reach⟩ := underscoreCount_spec hwu he
    rw [last, underscoreXs_getElem?_last hwu he, Option.some_inj] at hb
    rw [← last] at short reach
    omega

end Wide

/-- The widest cell, of 36 steps, takes 5 of the narrowest underscores, of 8. -/
theorem underscoreXs_length_le (x : Nat) {e wu : Nat} (hwu : 8 ≤ wu) (he : e ≤ 36) :
    (underscoreXs x e wu).length ≤ 5 := by
  rcases Nat.lt_or_ge e wu with narrow | wide
  · simp [underscoreXs_narrow narrow]
  · rw [underscoreXs_length_wide (by omega) wide]
    have few : (e - 1) / wu ≤ 35 / 8 := Nat.div_le_div (by omega) hwu (by decide)
    omega

/-- Settles O52: each part is a lemma of this file, the wide cell's strikes read off as regular ones and
the last. -/
theorem underscoresCoverTheCell : Obligations.UnderscoresCoverTheCell := by
  refine ⟨fun _ _ => rfl, fun family p => ⟨fun _ => underscoreWidth_of_unit family,
    underscoreWidth_bounds family p⟩, fun family _ _ => ?petal,
    fun x _ _ => underscoreXs_length_le x, fun x e wu hwu => ⟨underscoreXs_narrow, fun he => ?wide⟩⟩
  case petal => exact Option.isSome_of_eq_some (petal_underscoreCode family)
  case wide =>
    have count := underscoreXs_length_wide (x := x) hwu he
    exact ⟨count.trans (underscoreCount_eq hwu he).symm, underscoreXs_head?_wide hwu he,
      fun j hj => underscoreXs_getElem?_regular hwu he (by omega),
      underscoreXs_getLast?_wide hwu he, fun _ _ _ => underscoreXs_spacing hwu he⟩

end Sys2Proof.Machine
end

section
/-! Proofs about the bucket hash and the signature of a word (R149). Both are left folds over the word's
codes; the signature's fold starts from the word's length n, which S × 32 + n then keeps in its low five
bits. -/

namespace Sys2Proof.Machine

/-! ## The bucket hash -/

theorem hashA_append_singleton (w : List Nat) (c : Nat) :
    hashA (w ++ [c]) = (hashA w * 31 + c) % 65536 :=
  List.foldl_concat ..

/-! ## The signature's S -/

/-- R149's S: it starts from n and takes the codes in order. -/
def signatureFold (n : Nat) (letters : List Nat) : Nat :=
  letters.foldl (fun s c => (s * 7 + c) % 2048) n

@[simp] theorem signatureFold_nil (n : Nat) : signatureFold n [] = n := rfl

theorem signatureFold_append_singleton (n : Nat) (w : List Nat) (c : Nat) :
    signatureFold n (w ++ [c]) = (signatureFold n w * 7 + c) % 2048 :=
  List.foldl_concat ..

theorem signature_eq (w : List Nat) : signature w = signatureFold w.length w * 32 + w.length := rfl

/-- S fits in eleven bits: its start does, and each code reduces it mod 2048. -/
theorem signatureFold_lt {n : Nat} (hn : n < 2048) (w : List Nat) : signatureFold n w < 2048 := by
  induction w using List.reverseRecOn with
  | nil => exact hn
  | append_singleton w c _ =>
    rw [signatureFold_append_singleton]
    exact Nat.mod_lt _ (by decide)

/-! ## The signature -/

theorem signature_mod_32 {w : List Nat} (hw : w.length < 32) : signature w % 32 = w.length := by
  rw [signature_eq, Nat.mul_add_mod_self_right, Nat.mod_eq_of_lt hw]

theorem signature_le {w : List Nat} (hw : w.length ≤ 24) : signature w ≤ 65528 := by
  have fold_lt := signatureFold_lt (show w.length < 2048 by omega) w
  rw [signature_eq]
  omega

/-- Settles O48: the folds give the recurrences, and a signature of at most 65528 is below the mark of an
empty slot. -/
theorem signatureIsNeverEmptySlot : Obligations.SignatureIsNeverEmptySlot := by
  refine ⟨fun _ _ _ _ => rfl, rfl, hashA_append_singleton,
    fun w => ⟨?recurrence, fun _ hw => ?bounds⟩⟩
  case recurrence =>
    exact ⟨signatureFold w.length, signatureFold_nil _, signatureFold_append_singleton _,
      signature_eq w⟩
  case bounds =>
    have le := signature_le hw
    exact ⟨signature_mod_32 (by omega), le, by omega⟩

end Sys2Proof.Machine
end

section
/-! Proofs about the Tone Generator: one lemma per line of R170's table, and the end of a sounding tone's
pattern (R171). -/

namespace Sys2Proof.Machine

/-! ## The lines of R170's table -/

section Request
variable {t : ToneGenerator} {v : Volume} {k : ToneKind} {rep : Bool} {snd w : Tone}

@[simp] theorem ToneGenerator.request_off : t.request .off k rep = t := rfl

/-- R170's second line: a sounding ALARM only takes the flag. -/
theorem ToneGenerator.request_alarm_of_alarm (hv : v ≠ .off) (hs : t.sounding = some snd)
    (ha : snd.kind = .alarm) :
    t.request v .alarm rep = { t with sounding := some ⟨.alarm, snd.repeating || rep⟩ } := by
  simp [ToneGenerator.request, hs, ha]

/-- R170's third line: the ALARM cuts another tone off, and the pending slot is kept. -/
theorem ToneGenerator.request_alarm_of_not_alarm (hv : v ≠ .off) (hs : t.sounding = some snd)
    (ha : snd.kind ≠ .alarm) :
    t.request v .alarm rep = { t with sounding := some ⟨.alarm, rep⟩ } := by
  simp [ToneGenerator.request, hs, ha]

/-- R170's fourth line. -/
theorem ToneGenerator.request_of_silent (hv : v ≠ .off) (hs : t.sounding = none) :
    t.request v k rep = { t with sounding := some ⟨k, rep⟩ } := by
  simp [ToneGenerator.request, hs]

/-- R170's fifth line. -/
theorem ToneGenerator.request_of_none_waiting (hv : v ≠ .off) (hs : t.sounding = some snd)
    (hk : k ≠ .alarm) (hw : t.waiting = none) :
    t.request v k rep = { t with waiting := some ⟨k, rep⟩ } := by
  simp [ToneGenerator.request, hs, hk, hw]

/-- R170's last two lines: equal priority replaces. -/
theorem ToneGenerator.request_of_waiting (hv : v ≠ .off) (hs : t.sounding = some snd)
    (hk : k ≠ .alarm) (hw : t.waiting = some w) :
    t.request v k rep =
      if w.kind.priority ≤ k.priority then { t with waiting := some ⟨k, rep⟩ } else t := by
  simp [ToneGenerator.request, hs, hk, hw]

end Request

/-! ## The end of a pattern (R171) -/

section Complete
variable {s : State} {k : ToneKind}

theorem exec_toneComplete_of_once (live : s.live = true) (hs : s.tone.sounding = some ⟨k, false⟩) :
    exec .toneComplete s = .next { s with tone := ⟨s.tone.waiting, none⟩ } := by
  simp [exec, execToneComplete, live, hs, ToneGenerator.endSounding]

theorem exec_toneComplete_of_repeating (live : s.live = true)
    (hs : s.tone.sounding = some ⟨k, true⟩) : exec .toneComplete s = .next s := by
  simp [exec, execToneComplete, live, hs]

end Complete

/-- Settles O50: the lines of R170's table, each under its own conditions, and R171's two ends of a
pattern. -/
theorem toneRequestsFollowTable : Obligations.ToneRequestsFollowTable := by
  refine ⟨fun t v k rep => ⟨?off, ?silent, ?sounding⟩, fun s live => ⟨?once, ?repeating⟩⟩
  case off =>
    rintro rfl
    exact ToneGenerator.request_off
  case silent => exact ToneGenerator.request_of_silent
  case sounding =>
    intro hv snd hs
    refine ⟨?_, ?_, ToneGenerator.request_of_none_waiting hv hs,
      fun hk _ => ToneGenerator.request_of_waiting hv hs hk⟩
    · rintro rfl ha
      exact ToneGenerator.request_alarm_of_alarm hv hs ha
    · rintro rfl ha
      exact ToneGenerator.request_alarm_of_not_alarm hv hs ha
  case once => exact fun _ => exec_toneComplete_of_once live
  case repeating => exact fun _ => exec_toneComplete_of_repeating live

end Sys2Proof.Machine
end

section
/-! Proofs about good KEY and TEXT frames (R175, R176): one lemma per line of R175's table and per case
of R176, and what no case of either touches. -/

namespace Sys2Proof.Machine

variable {s : State}

/-! ## The lines of R175's table -/

section OfferKey
variable {code flags : Byte}

theorem offerKey_adjust (mech : s.seq.mech = .adjust) :
    s.offerKey code flags = s.raiseKeyLost 3 code .key := by
  simp [State.offerKey, mech]

theorem offerKey_earlyRepeat (mech : s.seq.mech ≠ .adjust) (repeated : flags.toNat % 2 = 1)
    (few : s.keyFree ≤ 16) : s.offerKey code flags = s.raiseKeyLost 1 code .key := by
  simp [State.offerKey, mech, repeated, few]

theorem offerKey_full (mech : s.seq.mech ≠ .adjust) (pressed : ¬ flags.toNat % 2 = 1)
    (full : s.keyFree = 0) : s.offerKey code flags = s.raiseKeyLost 0 code .key := by
  simp [State.offerKey, mech, pressed, full]

theorem offerKey_joins (mech : s.seq.mech ≠ .adjust)
    (inTime : ¬ (flags.toNat % 2 = 1 ∧ s.keyFree ≤ 16))
    (room : ¬ (¬ flags.toNat % 2 = 1 ∧ s.keyFree = 0)) :
    s.offerKey code flags = s.joinKeys [⟨code, .key, flags.toNat % 2 = 1⟩] := by
  simp only [State.offerKey, if_neg mech, Bool.and_eq_true, decide_eq_true_eq, Bool.not_eq_true',
    decide_eq_false_iff_not, if_neg inTime, if_neg room]

/-- A key that is offered either raises a notice and changes nothing else, or joins in a free place. -/
theorem offerKey_cases (s : State) (code flags : Byte) :
    (∃ k data, s.offerKey code flags = s.raise k data) ∨
      1 ≤ s.keyFree ∧
        s.offerKey code flags = s.joinKeys [⟨code, .key, flags.toNat % 2 = 1⟩] := by
  by_cases adjust : s.seq.mech = .adjust
  · exact .inl ⟨_, _, offerKey_adjust adjust⟩
  by_cases early : flags.toNat % 2 = 1 ∧ s.keyFree ≤ 16
  · exact .inl ⟨_, _, offerKey_earlyRepeat adjust early.1 early.2⟩
  by_cases full : ¬ flags.toNat % 2 = 1 ∧ s.keyFree = 0
  · exact .inl ⟨_, _, offerKey_full adjust full.1 full.2⟩
  · exact .inr ⟨by omega, offerKey_joins adjust early full⟩

end OfferKey

/-! ## The cases of R176 -/

section OfferText
variable {bytes : List Byte}

theorem offerText_adjust (mech : s.seq.mech = .adjust) :
    s.offerText bytes = s.raiseKeyLost 3 (bytes.headD 0) .text :=
  if_pos mech

theorem offerText_refused (mech : s.seq.mech ≠ .adjust) (full : s.keyFree < bytes.length + 8) :
    s.offerText bytes = s.raise .textRefused [byteOf bytes.length, byteOf s.keyFree] := by
  rw [State.offerText, if_neg mech, if_pos full]

theorem offerText_joins (mech : s.seq.mech ≠ .adjust) (room : ¬ s.keyFree < bytes.length + 8) :
    s.offerText bytes = s.joinKeys (textEntries bytes) := by
  rw [State.offerText, if_neg mech, if_neg room]

/-- A TEXT frame either raises a notice and changes nothing else, or joins with places to spare. -/
theorem offerText_cases (s : State) (bytes : List Byte) :
    (∃ k data, s.offerText bytes = s.raise k data) ∨
      bytes.length + 8 ≤ s.keyFree ∧ s.offerText bytes = s.joinKeys (textEntries bytes) := by
  by_cases adjust : s.seq.mech = .adjust
  · exact .inl ⟨_, _, offerText_adjust adjust⟩
  by_cases full : s.keyFree < bytes.length + 8
  · exact .inl ⟨_, _, offerText_refused adjust full⟩
  · exact .inr ⟨Nat.le_of_not_lt full, offerText_joins adjust full⟩

/-- R176's mapping; a code below 0x20 that is no line of it makes no entry. -/
theorem textEntry_eq (b : Byte) : textEntry b =
    if b = 0x0D then some 0x01 else if b = 0x09 then some 0x02
    else if b = 0x08 then some 0x04 else if b = 0x0A then some 0x0A
    else if b.toNat < 0x20 then none else some b := by
  have by_number (n : Byte) : b = n ↔ b.toNat = n.toNat := BitVec.toNat_inj.symm
  unfold textEntry
  split <;> simp_all

theorem textEntries_eq (bytes : List Byte) : textEntries bytes =
    bytes.filterMap fun b => (textEntry b).map fun c => (⟨c, .text, false⟩ : KeyEntry) :=
  List.map_filterMap ..

end OfferText

/-! ## What the offer of a frame leaves as it was -/

@[simp] theorem joinKeys_keys (new : List KeyEntry) : (s.joinKeys new).keys = s.keys ++ new := by
  unfold State.joinKeys; simp only; split <;> rfl

@[simp] theorem joinKeys_notices (new : List KeyEntry) : (s.joinKeys new).notices = s.notices := by
  unfold State.joinKeys; simp only; split <;> rfl

/-- A frame of keys or printer data has been received: the receiver hunts, and the mechanism, the
settings, the line and the Strike Queue are as they were. -/
structure State.Received (s u : State) : Prop where
  mechanism : s.sameMechanism u
  settings : s.sameSettings u
  line : u.line = s.line
  strikes : u.strikes = s.strikes
  hunts : u.link.receiver = .hunt

theorem received_takeFrame (kind : Byte) (payload : List Byte) :
    s.Received (s.takeFrame kind payload) :=
  ⟨⟨rfl, rfl, rfl, rfl, rfl, rfl, rfl⟩, ⟨rfl, rfl⟩, rfl, rfl, rfl⟩

theorem State.Received.raise {u : State} (h : s.Received u) (k : NoticeKind) (data : List Byte) :
    s.Received (u.raise k data) :=
  ⟨h.mechanism, h.settings, h.line, h.strikes, h.hunts⟩

theorem State.Received.joinKeys {u : State} (h : s.Received u) (new : List KeyEntry) :
    s.Received (u.joinKeys new) := by
  unfold State.joinKeys
  simp only
  split <;> exact ⟨h.mechanism, h.settings, h.line, h.strikes, h.hunts⟩

theorem State.Received.offerKey {u : State} (h : s.Received u) (code flags : Byte) :
    s.Received (u.offerKey code flags) := by
  obtain ⟨k, data, lost⟩ | ⟨_, joins⟩ := offerKey_cases u code flags
  · rw [lost]
    exact h.raise k data
  · rw [joins]
    exact h.joinKeys _

theorem State.Received.offerText {u : State} (h : s.Received u) (bytes : List Byte) :
    s.Received (u.offerText bytes) := by
  obtain ⟨k, data, refused⟩ | ⟨_, joins⟩ := offerText_cases u bytes
  · rw [refused]
    exact h.raise k data
  · rw [joins]
    exact h.joinKeys _

/-- The event's end keeps what the frame's reception kept, and the keys. -/
theorem State.Received.finish {u : State} (h : s.Received u) :
    s.sameMechanism (u.finish s) ∧ s.sameSettings (u.finish s) ∧ (u.finish s).line = s.line ∧
      (u.finish s).strikes = s.strikes ∧ (u.finish s).keys = u.keys := by
  obtain ⟨_, _, keys, line, _, settings, strikes, seq, carrier, wheel, platen, hammer, ribbon,
    inputs, _, _, retained⟩ := finish_same u s
  obtain ⟨⟨hseq, hcarrier, hwheel, hplaten, hhammer, hribbon, hinputs⟩, ⟨hsettings, hretained⟩,
    hline, hstrikes, _⟩ := h
  exact ⟨⟨seq.trans hseq, carrier.trans hcarrier, wheel.trans hwheel, platen.trans hplaten,
    hammer.trans hhammer, ribbon.trans hribbon, inputs.trans hinputs⟩,
    ⟨settings.trans hsettings, retained.trans hretained⟩, line.trans hline,
    strikes.trans hstrikes, keys⟩

theorem exec_keyFrame (receiving : s.receiving = true) (code flags : Byte) :
    exec (.keyFrame code flags) s =
      .next (((s.takeFrame 0x01 [code, flags]).offerKey code flags).finish s) := by
  simp [exec, execKeyFrame, receiving]

theorem exec_textFrame (receiving : s.receiving = true) {bytes : List Byte}
    (some_byte : 1 ≤ bytes.length) (fits : bytes.length ≤ 48) :
    exec (.textFrame bytes) s =
      .next (((s.takeFrame 0x02 bytes).offerText bytes).finish s) := by
  have nonempty : bytes ≠ [] := List.ne_nil_of_length_pos some_byte
  simp [exec, execTextFrame, receiving, nonempty, fits]

/-- Settles O6: the lines of R175's table in order, on the state whose frame has been taken in. -/
theorem keyFrameJoinsOrIsLost : Obligations.KeyFrameJoinsOrIsLost := by
  intro s code flags receiving
  let v := s.takeFrame 0x01 [code, flags]
  have received := (received_takeFrame (s := s) 0x01 [code, flags]).offerKey code flags
  obtain ⟨mechanism, settings, line, strikes, keys⟩ := received.finish
  refine ⟨_, v.offerKey code flags, exec_keyFrame receiving code flags, rfl, mechanism, settings,
    line, strikes, received.hunts, ?_⟩
  simp only [decide_eq_true_eq, decide_eq_false_iff_not, keys]
  split_ifs with adjust early full
  · rw [offerKey_adjust (s := v) adjust]
    exact ⟨rfl, rfl⟩
  · rw [offerKey_earlyRepeat (s := v) adjust early.1 early.2]
    exact ⟨rfl, rfl⟩
  · rw [offerKey_full (s := v) adjust full.1 full.2]
    exact ⟨rfl, rfl⟩
  · rw [offerKey_joins (s := v) adjust early full, joinKeys_keys, joinKeys_notices]
    exact ⟨rfl, rfl⟩

/-- Settles O7: R176's mapping, and its three cases in order on the state whose frame has been taken
in. -/
theorem textFrameJoinsOrIsRefused : Obligations.TextFrameJoinsOrIsRefused := by
  refine ⟨textEntry_eq, fun s bytes receiving some_byte fits => ?_⟩
  let v := s.takeFrame 0x02 bytes
  have received := (received_takeFrame (s := s) 0x02 bytes).offerText bytes
  obtain ⟨mechanism, settings, line, strikes, keys⟩ := received.finish
  refine ⟨_, v.offerText bytes, exec_textFrame receiving some_byte fits, rfl, mechanism, settings,
    line, strikes, received.hunts, ?_⟩
  rw [keys]
  split_ifs with adjust full
  · rw [offerText_adjust (s := v) adjust]
    exact ⟨rfl, rfl⟩
  · rw [offerText_refused (s := v) adjust full]
    exact ⟨rfl, rfl⟩
  · rw [offerText_joins (s := v) adjust full, joinKeys_keys, joinKeys_notices, textEntries_eq]
    exact ⟨rfl, rfl⟩

end Sys2Proof.Machine
end

section
/-! Proofs about the Key Queue and the BUSY line (R172, R177). Only four things write them: a key that
is taken, entries that join, a start, and the part's coming to rest. Everything else leaves the view
`KeyPort` of a state as it was; the lemmas below say so per operation, and `KeyPort.Moves` says once what
a command can do. -/

namespace Sys2Proof.Machine

/-! ## The view -/

/-- The power, the Key Queue and the BUSY line. -/
structure KeyPort where
  power : Power
  keys : List KeyEntry
  busy : Bool

/-- The view is read off the kept fields, so that what keeps those keeps it. -/
def Kept.port (k : Kept) : KeyPort := ⟨k.power, k.keys, k.link.busyLine⟩

variable {s t : State}

theorem port_eq (s : State) : s.kept.port = ⟨s.power, s.keys, s.link.busyLine⟩ := rfl

/-- A record update that touches neither the power nor the Key Queue nor BUSY. -/
@[simp] theorem port_mk (t : State) {pe lk ln tx se st sq ca wh pl ha ri ip sp di tn no re}
    (busy : lk.busyLine = t.link.busyLine) :
    (State.mk pe t.power lk t.keys ln tx se st sq ca wh pl ha ri ip sp di tn no re).kept.port =
      t.kept.port := by
  simp only [port_eq, busy]

/-! ## The end of an event -/

@[simp] theorem finish_port (t s : State) : (t.finish s).kept.port = t.kept.port := by
  obtain ⟨d, tr, sa, ba, n, h⟩ := finish_eq t s
  simp [h]

@[simp] theorem conclude_port (t s : State) : (t.conclude s).kept.port = t.kept.port := by
  unfold State.conclude
  rw [finish_port, sequence_kept, textSettle_kept]

@[simp] theorem render_port : s.render.kept.port = s.kept.port := by simp [State.render]

@[simp] theorem sendFrame_port (w k p) : (s.sendFrame w k p).kept.port = s.kept.port := by
  simp [State.sendFrame]

@[simp] theorem chooseFrame_port : s.chooseFrame.kept.port = s.kept.port := by
  unfold State.chooseFrame
  repeat' split
  all_goals simp [State.sendNotice]

@[simp] theorem takeFrame_port (k p) : (s.takeFrame k p).kept.port = s.kept.port := by
  simp [State.takeFrame]

@[simp] theorem frameFails_port (e h) : (s.frameFails e h).kept.port = s.kept.port := by
  simp [State.frameFails]

/-! ## Parts of the start-up, recoveries and the wheel -/

@[simp] theorem writeSettings_port (f) : (s.writeSettings f).kept.port = s.kept.port := by
  simp [State.writeSettings]

@[simp] theorem setWords_port (ws) : (s.setWords ws).kept.port = s.kept.port := by
  simp [State.setWords]

@[simp] theorem mapStartup_port (f) : (s.mapStartup f).kept.port = s.kept.port := by
  simp [State.mapStartup]

@[simp] theorem ready_port (u) : (s.ready u).kept.port = s.kept.port := by simp [State.ready]

@[simp] theorem checkReady_port : s.checkReady.kept.port = s.kept.port := by
  unfold State.checkReady
  repeat' split
  all_goals simp

@[simp] theorem stopAlarm_port : s.stopAlarm.kept.port = s.kept.port := by
  unfold State.stopAlarm
  split <;> simp

@[simp] theorem toBoundary_port : s.toBoundary.kept.port = s.kept.port := by
  simp [State.toBoundary]

@[simp] theorem recovered_port : s.recovered.kept.port = s.kept.port := by
  unfold State.recovered
  simp only
  repeat' split
  all_goals simp

@[simp] theorem beginIdent_port : s.beginIdent.kept.port = s.kept.port := by
  simp [State.beginIdent]

@[simp] theorem beginHoming_port : s.beginHoming.kept.port = s.kept.port := by
  simp [State.beginHoming]

@[simp] theorem beginSensing_port : s.beginSensing.kept.port = s.kept.port := by
  simp [State.beginSensing]

@[simp] theorem carrierHomed_port : s.carrierHomed.kept.port = s.kept.port := by
  unfold State.carrierHomed
  split <;> simp

@[simp] theorem carrierHomeFailed_port : s.carrierHomeFailed.kept.port = s.kept.port := by
  simp [State.carrierHomeFailed]

@[simp] theorem leaveAdjust_port : s.leaveAdjust.kept.port = s.kept.port := by
  simp [State.leaveAdjust]

@[simp] theorem identOver_port : s.identOver.kept.port = s.kept.port := by simp [State.identOver]

@[simp] theorem letLiftGo_port (id) : (s.letLiftGo id).kept.port = s.kept.port := by
  unfold State.letLiftGo
  split <;> simp

@[simp] theorem identSettled_port : s.identSettled.kept.port = s.kept.port := by
  unfold State.identSettled
  split <;> simp

@[simp] theorem turnToPetalZero_port : s.turnToPetalZero.kept.port = s.kept.port := by
  simp [State.turnToPetalZero]

@[simp] theorem readId_port (id) : (s.readId id).kept.port = s.kept.port := by
  unfold State.readId
  simp only [identSettled_port]
  repeat' split
  all_goals simp

@[simp] theorem noWheelFound_port : s.noWheelFound.kept.port = s.kept.port := by
  simp [State.noWheelFound]

@[simp] theorem identFailed_port (c) : (s.identFailed c).kept.port = s.kept.port := by
  simp [State.identFailed]

@[simp] theorem readInvalid_port (i) : (s.readInvalid i).kept.port = s.kept.port := by
  unfold State.readInvalid
  simp only
  split <;> simp

@[simp] theorem homeNotch_port : s.homeNotch.kept.port = s.kept.port := by simp [State.homeNotch]

@[simp] theorem dataNotch_port (vs b) : (s.dataNotch vs b).kept.port = s.kept.port := by
  unfold State.dataNotch
  simp only
  split <;> simp

@[simp] theorem classified_port (k) : (s.classified k).kept.port = s.kept.port := by
  unfold State.classified
  split <;> simp

@[simp] theorem overrun_port : s.overrun.kept.port = s.kept.port := by
  unfold State.overrun
  simp only
  split <;> simp

/-! ## Motions, the cover and sensing -/

@[simp] theorem drained_port : s.drained.kept.port = s.kept.port := by
  unfold State.drained
  split <;> simp

@[simp] theorem motionEnded_port : s.motionEnded.kept.port = s.kept.port := by
  unfold State.motionEnded
  simp only
  split <;> simp

@[simp] theorem moveEnded_port : s.moveEnded.kept.port = s.kept.port := by
  unfold State.moveEnded
  split <;> simp

@[simp] theorem platenArrived_port (m) : (s.platenArrived m).kept.port = s.kept.port := by
  simp [State.platenArrived]

@[simp] theorem afterPlatenMove_port : s.afterPlatenMove.kept.port = s.kept.port := by
  unfold State.afterPlatenMove
  repeat' split
  all_goals simp

@[simp] theorem stopCarrier_port (d) : (s.stopCarrier d).kept.port = s.kept.port := by
  simp [State.stopCarrier]

@[simp] theorem stopMotions_port (d) : (s.stopMotions d).kept.port = s.kept.port := by
  simp [State.stopMotions]

@[simp] theorem stopHoming_port (n) : (s.stopHoming n).kept.port = s.kept.port := by
  unfold State.stopHoming
  split <;> simp

@[simp] theorem stopWork_port (d) : (s.stopWork d).kept.port = s.kept.port := by
  simp [State.stopWork]

@[simp] theorem stopEntry_port (d) : (s.stopEntry d).kept.port = s.kept.port := by
  unfold State.stopEntry
  simp only
  repeat' split
  all_goals simp

@[simp] theorem coverOpens_port (d) : (s.coverOpens d).kept.port = s.kept.port := by
  simp [State.coverOpens]

@[simp] theorem coverCloses_port : s.coverCloses.kept.port = s.kept.port := by
  unfold State.coverCloses
  simp only
  split <;> simp

@[simp] theorem qualifiedChange_port (k d) : (s.qualifiedChange k d).kept.port = s.kept.port := by
  unfold State.qualifiedChange
  repeat' split
  all_goals simp

@[simp] theorem sensingEnds_port (c) : (s.sensingEnds c).kept.port = s.kept.port := by
  simp [State.sensingEnds]

/-! ## Dictionary reads, word records and the spelling mode -/

@[simp] theorem raiseDict_kept (c m p) : (s.raiseDict c m p).kept = s.kept := by
  simp [State.raiseDict]

@[simp] theorem verdict_port (l b) : (s.verdict l b).kept.port = s.kept.port := by
  unfold State.verdict
  simp only
  repeat' split
  all_goals simp

@[simp] theorem endLookup_port (l b) : (s.endLookup l b).kept.port = s.kept.port := by
  unfold State.endLookup
  simp only
  split <;> simp

@[simp] theorem romEnded_port (l r b) : (s.romEnded l r b).kept.port = s.kept.port := by
  unfold State.romEnded
  split <;> simp

@[simp] theorem bucketRead_port (r d) : (s.bucketRead r d).kept.port = s.kept.port := by
  unfold State.bucketRead
  simp only
  repeat' split
  all_goals simp

@[simp] theorem headerRead_port (r d) : (s.headerRead r d).kept.port = s.kept.port := by
  unfold State.headerRead
  simp only
  split <;> simp

@[simp] theorem dictRead_port (d) : (s.dictRead d).kept.port = s.kept.port := by
  unfold State.dictRead
  split <;> simp

@[simp] theorem dropAnyWordMessage_port : s.dropAnyWordMessage.kept.port = s.kept.port := by
  unfold State.dropAnyWordMessage
  repeat' split
  all_goals simp

@[simp] theorem discardRecords_port : s.discardRecords.kept.port = s.kept.port := by
  simp [State.discardRecords]

@[simp] theorem spellModeChanged_port (m) : (s.spellModeChanged m).kept.port = s.kept.port := by
  unfold State.spellModeChanged
  split <;> simp

@[simp] theorem accept_port (r) : (s.accept r).kept.port = s.kept.port := by simp [State.accept]

theorem foldl_port {α : Type} (f : State → α → State)
    (h : ∀ s a, (f s a).kept.port = s.kept.port) (l : List α) (s : State) :
    (l.foldl f s).kept.port = s.kept.port := by
  induction l generalizing s with
  | nil => rfl
  | cons a l ih => rw [List.foldl_cons, ih, h]

@[simp] theorem addTarget_port (r) : (s.addTarget r).kept.port = s.kept.port := by
  unfold State.addTarget
  simp only
  rw [foldl_port _ fun s q => accept_port q]
  repeat' split
  all_goals simp

/-! ## Keys that make cells -/

/-- What a key comes to, if it does not wait, leaves the view. -/
def KeepsPort (s : State) (o : Option State) : Prop := ∀ t ∈ o, t.kept.port = s.kept.port

@[simp] theorem keepsPort_none : KeepsPort s none := by simp [KeepsPort]

@[simp] theorem keepsPort_some : KeepsPort s (some t) ↔ t.kept.port = s.kept.port := by
  simp [KeepsPort]

theorem KeepsPort.of_eq {o : Option State} (h : KeepsPort s o) (e : o = some t) :
    t.kept.port = s.kept.port :=
  h t e

theorem KeepsPort.trans {o : Option State} (h : KeepsPort t o) (e : t.kept.port = s.kept.port) :
    KeepsPort s o :=
  fun u hu => (h u hu).trans e

@[simp] theorem refuseLost_port (e) : (s.refuseLost e).kept.port = s.kept.port := by
  simp [State.refuseLost, State.raiseKeyLost]

@[simp] theorem refuseFull_port (c) : (s.refuseFull c).kept.port = s.kept.port := by
  simp [State.refuseFull]

@[simp] theorem closeAligned_port : s.closeAligned.kept.port = s.kept.port := by
  simp [State.closeAligned]

@[simp] theorem releaseAll_port : s.releaseAll.kept.port = s.kept.port := by
  simp [State.releaseAll]

theorem place_keepsPort (i c) : KeepsPort s (s.place i c) := by
  unfold State.place
  simp only
  repeat' split
  all_goals simp

theorem make_port {next : State → State} (code i c)
    (h : ∀ u, (next u).kept.port = u.kept.port) :
    (s.make code i c next).kept.port = s.kept.port := by
  unfold State.make
  split
  case h_1 => simp
  case h_2 u placed =>
    have := (place_keepsPort i c).of_eq placed
    split
    · simp
    · simp [h, this]

@[simp] theorem removeFrom_port (i n : Nat) :
    ∀ s : State, (s.removeFrom i n).kept.port = s.kept.port := by
  induction n with
  | zero => exact fun _ => rfl
  | succ n ih =>
    intro s
    unfold State.removeFrom
    split <;> simp [ih]

@[simp] theorem dropClosing_port : s.dropClosing.kept.port = s.kept.port := by
  unfold State.dropClosing
  simp only
  split <;> simp

@[simp] theorem justify_port : s.justify.kept.port = s.kept.port := by
  unfold State.justify
  simp only
  repeat' split
  all_goals simp

@[simp] theorem wrap_port (c) : (s.wrap c).kept.port = s.kept.port := by
  unfold State.wrap
  simp only
  split <;> simp

@[simp] theorem tryWrap_port (e c) : (s.tryWrap e c).kept.port = s.kept.port := by
  unfold State.tryWrap
  simp only
  repeat' split
  all_goals simp

theorem appendGraphic_keepsPort (e) : KeepsPort s (s.appendGraphic e) := by
  have closed (b : Bool) : (if b then s.closeAligned else s).kept.port = s.kept.port := by
    split <;> simp
  have released (b : Bool) (u : State) :
      (if b then u.releaseAll else u).kept.port = u.kept.port := by
    split <;> simp
  unfold State.appendGraphic
  simp only
  split
  · simp
  · split
    · split
      · simp
      · simp [make_port _ _ _ fun u => releaseAll_port (s := u)]
    · split
      · simp
      · split
        · simp
        · rw [keepsPort_some, make_port _ _ _ fun u => released _ u, closed]

theorem insertGraphic_port (e i) : (s.insertGraphic e i).kept.port = s.kept.port := by
  refine make_port _ _ _ fun u => ?_
  repeat' split
  all_goals simp

theorem fillGap_keepsPort (b c) : KeepsPort s (s.fillGap b c) := by
  unfold State.fillGap
  simp only
  split <;> simp

theorem overstrike_keepsPort (b c) : KeepsPort s (s.overstrike b c) := by
  unfold State.overstrike
  simp only
  split <;> simp

theorem strikeOver_keepsPort (b) : KeepsPort s (s.strikeOver b) := by
  unfold State.strikeOver
  split
  · exact fillGap_keepsPort _ _
  · split
    · exact overstrike_keepsPort _ _
    · simp

theorem graphicOn_keepsPort (e) : KeepsPort s (s.graphicOn e) := by
  unfold State.graphicOn
  repeat' split
  · simp
  · simp
  · exact appendGraphic_keepsPort e
  · simp [insertGraphic_port]
  · exact strikeOver_keepsPort _

@[simp] theorem terminate_port (b i) : (s.terminate b i).kept.port = s.kept.port := by
  unfold State.terminate
  repeat' split
  all_goals simp

theorem appendBlank_keepsPort (b c) : KeepsPort s (s.appendBlank b c) := by
  have released := make_port (s := s) b s.line.cells.length c (next := State.releaseAll)
    fun u => releaseAll_port
  have terminated := make_port (s := s.closeAligned) b s.line.cells.length c
    (next := State.terminate s.text.aligned.isSome s.line.cells.length) fun u => terminate_port ..
  unfold State.appendBlank
  simp only
  repeat' split
  all_goals simp [released, terminated]

theorem insertBlank_port (b i c) : (s.insertBlank b i c).kept.port = s.kept.port := by
  refine make_port _ _ _ fun u => ?_
  split <;> simp

@[simp] theorem overflowSpace_port (b c) : (s.overflowSpace b c).kept.port = s.kept.port := by
  unfold State.overflowSpace
  simp only
  repeat' split
  all_goals simp

theorem spaceOn_keepsPort (e) : KeepsPort s (s.spaceOn e) := by
  unfold State.spaceOn
  simp only
  repeat' split
  · simp
  · simp
  · exact appendBlank_keepsPort _ _
  · simp [insertBlank_port]
  · simp

theorem tabOn_keepsPort (e) : KeepsPort s (s.tabOn e) := by
  unfold State.tabOn
  simp only
  repeat' split
  · simp
  · simp
  · exact appendBlank_keepsPort _ _
  · simp
  · simp [insertBlank_port]
  · simp

@[simp] theorem openAligned_port (b i n) : (s.openAligned b i n).kept.port = s.kept.port := by
  unfold State.openAligned
  simp only
  repeat' split
  all_goals simp

theorem decimalOn_keepsPort (e) : KeepsPort s (s.decimalOn e) := by
  unfold State.decimalOn
  simp only
  repeat' split
  case h_2.isFalse =>
    rw [keepsPort_some, make_port _ _ _ fun u => openAligned_port .., closeAligned_port]
  all_goals simp

/-! ## The other keys -/

@[simp] theorem endOfLine_port : s.endOfLine.kept.port = s.kept.port := by simp [State.endOfLine]

theorem returnOn_keepsPort : KeepsPort s s.returnOn := by simp [State.returnOn]

theorem withRoom_keepsPort (e) : KeepsPort s (s.withRoom e) := by
  unfold State.withRoom
  split <;> simp

theorem indexOn_keepsPort (i) : KeepsPort s (s.indexOn i) := by
  unfold State.indexOn
  refine (withRoom_keepsPort _).trans ?_
  split <;> simp [State.indexLine]

@[simp] theorem prepareIndex_port : s.prepareIndex.kept.port = s.kept.port := by
  simp [State.prepareIndex]

theorem halfLine_keepsPort (d) : KeepsPort s (s.halfLine d) := by
  unfold State.halfLine
  simp only
  split
  · exact (withRoom_keepsPort _).trans (by simp)
  · simp

theorem moveCursor_keepsPort (i j) : KeepsPort s (s.moveCursor i j) := by
  unfold State.moveCursor
  simp only
  repeat' split
  · exact (withRoom_keepsPort _).trans (by simp)
  · simp
  · simp

theorem backspaceOn_keepsPort : KeepsPort s s.backspaceOn := by
  unfold State.backspaceOn
  split
  · simp
  · exact moveCursor_keepsPort _ _

theorem forwardOn_keepsPort : KeepsPort s s.forwardOn := by
  unfold State.forwardOn
  split
  · simp
  · exact moveCursor_keepsPort _ _

theorem relocateOn_keepsPort : KeepsPort s s.relocateOn :=
  (withRoom_keepsPort _).trans (by simp)

theorem correctOn_keepsPort : KeepsPort s s.correctOn := by
  have h := correction_keeps (s := s)
  unfold State.correctOn
  split <;> simp_all [Correction.keeps]

theorem eraseOn_keepsPort (k) : KeepsPort s (s.eraseOn k) := by
  have h := correction_keeps (s := s)
  unfold State.eraseOn
  split <;> simp_all [Correction.keeps]

theorem setFormat_keepsPort (f) : KeepsPort s (s.setFormat f) := by
  unfold State.setFormat
  split <;> simp

theorem toggleRelease_keepsPort : KeepsPort s s.toggleRelease := by simp [State.toggleRelease]

theorem setOrClick_keepsPort (b f) : KeepsPort s (s.setOrClick b f) := by
  unfold State.setOrClick
  split <;> simp

theorem onNewLine_keepsPort {act : State → Option State} (e) (h : ∀ u, KeepsPort u (act u)) :
    KeepsPort s (s.onNewLine e act) := by
  unfold State.onNewLine
  split
  · exact h s
  · simp
  · exact (h _).trans (by simp)

theorem onThisLine_keepsPort {act : State → Option State} (h : ∀ u, KeepsPort u (act u)) :
    KeepsPort s (s.onThisLine act) := by
  unfold State.onThisLine
  split
  · simp
  · exact h s

/-! ## Requests -/

/-- What a request does leaves the view. -/
def ActsKeepPort (act : State → Acted) : Prop := ∀ u, (act u).state.kept.port = u.kept.port

@[simp] theorem answer_port (r) : (s.answer r).state.kept.port = s.kept.port := rfl
@[simp] theorem answerDone_port : s.answerDone.state.kept.port = s.kept.port := rfl

theorem ActsKeepPort.gateAdjust {act : State → Acted} (h : ActsKeepPort act) :
    ActsKeepPort fun s => s.gateAdjust (act s) := by
  intro s
  simp only [State.gateAdjust]
  split <;> simp [h s]

theorem ActsKeepPort.gateBoth {act : State → Acted} (h : ActsKeepPort act) :
    ActsKeepPort fun s => s.gateBoth (act s) := by
  intro s
  simp only [State.gateBoth]
  split
  · rfl
  · exact h.gateAdjust s

theorem ActsKeepPort.gateService {act : State → Acted} (h : ActsKeepPort act) :
    ActsKeepPort fun s => s.gateService (act s) := by
  intro s
  simp only [State.gateService]
  repeat' split
  · rfl
  · exact h s
  · rfl

theorem doSetMargins_port (a) : ActsKeepPort (State.doSetMargins a) := by
  intro s
  unfold State.doSetMargins
  repeat' split
  all_goals simp

theorem doSetTab_port (a) : ActsKeepPort (State.doSetTab a) := by
  intro s
  unfold State.doSetTab
  repeat' split
  all_goals simp

theorem doClearTab_port (a) : ActsKeepPort (State.doClearTab a) := by
  intro s
  unfold State.doClearTab
  repeat' split
  all_goals simp

theorem doClearTabs_port (a) : ActsKeepPort (State.doClearTabs a) := by
  intro s
  unfold State.doClearTabs
  repeat' split
  all_goals simp

theorem doSetPitch_port (a) : ActsKeepPort (State.doSetPitch a) := by
  intro s
  unfold State.doSetPitch
  repeat' split
  all_goals simp

theorem doSetSpacing_port (a) : ActsKeepPort (State.doSetSpacing a) := by
  intro s
  unfold State.doSetSpacing
  repeat' split
  all_goals simp

theorem doSetImpression_port (a) : ActsKeepPort (State.doSetImpression a) := by
  intro s
  unfold State.doSetImpression
  repeat' split
  all_goals simp

@[simp] theorem volumeChanged_port : s.volumeChanged.kept.port = s.kept.port := by
  unfold State.volumeChanged
  split <;> simp

@[simp] theorem maskNotices_port (m b) : (s.maskNotices m b).kept.port = s.kept.port := by
  simp [State.maskNotices]

@[simp] theorem setPause_port (b) : (s.setPause b).kept.port = s.kept.port := by
  simp [State.setPause]

@[simp] theorem beginTest_port (e) : (s.beginTest e).kept.port = s.kept.port := by
  unfold State.beginTest
  split <;> simp

@[simp] theorem beginLeaving_port : s.beginLeaving.kept.port = s.kept.port := by
  unfold State.beginLeaving
  simp only
  repeat' split
  all_goals simp

theorem doSetTypingMode_port (a) : ActsKeepPort (State.doSetTypingMode a) := by
  intro s
  unfold State.doSetTypingMode
  repeat' split
  all_goals simp

theorem doSetSpellMode_port (a) : ActsKeepPort (State.doSetSpellMode a) := by
  intro s
  unfold State.doSetSpellMode
  repeat' split
  all_goals simp

theorem doSetToneVolume_port (a) : ActsKeepPort (State.doSetToneVolume a) := by
  intro s
  unfold State.doSetToneVolume
  repeat' split
  all_goals simp

theorem doAddWord_port (a) : ActsKeepPort (State.doAddWord a) := by
  intro s
  unfold State.doAddWord
  repeat' split
  all_goals simp

theorem doRemoveWord_port (a) : ActsKeepPort (State.doRemoveWord a) := by
  intro s
  unfold State.doRemoveWord
  repeat' split
  all_goals simp

theorem doMask_port (b a) : ActsKeepPort (State.doMask b a) := by
  intro s
  unfold State.doMask
  repeat' split
  all_goals simp

theorem doReadPage_port (a) : ActsKeepPort (State.doReadPage a) := by
  intro s
  unfold State.doReadPage
  repeat' split
  all_goals simp

theorem doReadLine_port (a) : ActsKeepPort (State.doReadLine a) := by
  intro s
  unfold State.doReadLine
  repeat' split
  all_goals simp

theorem doWriteTestPattern_port (a) : ActsKeepPort (State.doWriteTestPattern a) := by
  intro s
  unfold State.doWriteTestPattern
  repeat' split
  all_goals simp

theorem doClearErrorLog_port (a) : ActsKeepPort (State.doClearErrorLog a) := by
  intro s
  unfold State.doClearErrorLog
  repeat' split
  all_goals simp

theorem doPause_port (b a) : ActsKeepPort (State.doPause b a) := by
  intro s
  unfold State.doPause
  repeat' split
  all_goals simp

theorem doResume_port (a) : ActsKeepPort (State.doResume a) := by
  intro s
  unfold State.doResume
  repeat' split
  all_goals simp

theorem doRestart_port (a) : ActsKeepPort (State.doRestart a) := by
  intro s
  unfold State.doRestart
  repeat' split
  all_goals simp

theorem doSoundTone_port (a) : ActsKeepPort (State.doSoundTone a) := by
  intro s
  unfold State.doSoundTone
  repeat' split
  all_goals simp

theorem doEnterAdjust_port (a) : ActsKeepPort (State.doEnterAdjust a) := by
  intro s
  unfold State.doEnterAdjust
  repeat' split
  all_goals simp

theorem doAdjustStep_port (a) : ActsKeepPort (State.doAdjustStep a) := by
  intro s
  unfold State.doAdjustStep
  simp only
  repeat' split
  all_goals simp

theorem doTestStrike_port (a) : ActsKeepPort (State.doTestStrike a) := by
  intro s
  unfold State.doTestStrike
  simp only
  repeat' split
  all_goals simp

theorem doLeaveAdjust_port (a) : ActsKeepPort (State.doLeaveAdjust a) := by
  intro s
  unfold State.doLeaveAdjust
  repeat' split
  all_goals simp

theorem offerRequest_port {act : State → Acted} (n c a) (h : ActsKeepPort act) :
    (s.offerRequest n c a act).kept.port = s.kept.port := by
  unfold State.offerRequest
  simp only
  split
  · rfl
  · split
    · simp
    · simp [h _]

/-! ## What a command can do to the Key Queue and BUSY -/

/-- The part is live (R187). -/
def KeyPort.live (p : KeyPort) : Bool := p.power.mainUp && !p.power.resetLow

/-- What one command can do to the view. -/
inductive KeyPort.Moves (p : KeyPort) : KeyPort → Prop
  /-- It is left. -/
  | stays : p.Moves p
  /-- The queue takes a new content, within its places or no longer than before, and BUSY follows
  (R177). -/
  | follows (ks : List KeyEntry) (fits : ks.length ≤ max Config.keyPlaces p.keys.length) :
      p.Moves ⟨p.power, ks, busyLevel (Config.keyPlaces - ks.length) p.busy⟩
  /-- A start empties the queue and deasserts BUSY (R172, R187). -/
  | starts (w : Power) : p.Moves ⟨w, [], false⟩
  /-- The part comes to rest, or stays at rest, with no more keys than before (R187). -/
  | rests {q : KeyPort} (off : q.live = false) (fits : q.keys.length ≤ p.keys.length) : p.Moves q

/-- A command's outcome moves the view as `KeyPort.Moves` allows. -/
def MovesQueue (s : State) (o : Host.Outcome State Fault Refusal) : Prop :=
  ∀ t, o = .next t → s.kept.port.Moves t.kept.port

theorem movesQueue_next : MovesQueue s (.next t) ↔ s.kept.port.Moves t.kept.port := by
  simp [MovesQueue]

theorem movesQueue_of_port (h : t.kept.port = s.kept.port) : MovesQueue s (.next t) :=
  movesQueue_next.mpr (h ▸ .stays)

/-! ## Power, starts and rest -/

theorem warmStart_port : s.warmStart.kept.port = ⟨s.power, [], false⟩ := by
  rw [State.warmStart, render_port]
  rfl

theorem coldStart_port : s.coldStart.kept.port = ⟨s.power, [], false⟩ := by
  rw [State.coldStart, render_port]
  rfl

theorem atRest_port : s.atRest.kept.port = ⟨s.power, s.keys, false⟩ := rfl

/-- A start may be followed by rest at once, with nothing left to clear. -/
theorem started_moves {w : Power} (started : t.kept.port = ⟨w, [], false⟩) (b : Bool) :
    s.kept.port.Moves (if b then t.atRest else t).kept.port := by
  split
  · rw [atRest_port, show t.keys = [] from congrArg KeyPort.keys started]
    exact .starts _
  · rw [started]
    exact .starts _

theorem execPowerUp_moves : MovesQueue s (execPowerUp s) := by
  unfold execPowerUp
  simp only
  split
  · exact movesQueue_of_port rfl
  · rw [movesQueue_next]
    refine started_moves (w := { s.power with mainUp := true }) ?_ _
    split
    · exact warmStart_port
    · exact coldStart_port

theorem execMainPowerFail_moves : MovesQueue s (execMainPowerFail s) :=
  movesQueue_next.mpr (.rests rfl le_rfl)

theorem execResetPinAssert_moves : MovesQueue s (execResetPinAssert s) :=
  movesQueue_next.mpr (.rests (Bool.and_false _) le_rfl)

/-- The pin's release makes a start under main power; without it the part stays at rest. -/
theorem execResetPinRelease_moves : MovesQueue s (execResetPinRelease s) := by
  unfold execResetPinRelease
  simp only
  split
  · rw [movesQueue_next]
    split
    · rw [warmStart_port]
      exact .starts _
    · next down =>
        refine .rests ?_ le_rfl
        rw [port_eq]
        simpa [KeyPort.live] using down
  · exact movesQueue_of_port rfl

/-- The last byte of the answer to RESTART makes a start; any other transmission leaves the view. -/
theorem execTransmitComplete_moves : MovesQueue s (execTransmitComplete s) := by
  unfold execTransmitComplete
  split
  · exact movesQueue_of_port rfl
  · split
    · exact movesQueue_of_port rfl
    · split
      · rw [movesQueue_next, warmStart_port]
        exact .starts _
      · exact movesQueue_of_port (by simp)
    · exact movesQueue_of_port (by simp)

/-! ## Frames and keys -/

theorem joinKeys_port (new : List KeyEntry) : (s.joinKeys new).kept.port =
    ⟨s.power, s.keys ++ new, busyLevel (Config.keyPlaces - (s.keys ++ new).length)
      s.link.busyLine⟩ := by
  unfold State.joinKeys
  simp only
  split <;> rfl

theorem joinKeys_moves {new : List KeyEntry} (room : new.length ≤ s.keyFree) :
    s.kept.port.Moves (s.joinKeys new).kept.port := by
  have full : s.keyFree = Config.keyPlaces - s.keys.length := rfl
  rw [joinKeys_port]
  refine .follows _ ?_
  rw [List.length_append]
  change _ ≤ max _ s.keys.length
  omega

theorem offerKey_moves (code flags) : s.kept.port.Moves (s.offerKey code flags).kept.port := by
  obtain ⟨k, data, lost⟩ | ⟨room, joins⟩ := offerKey_cases s code flags
  · rw [lost, raise_kept]
    exact .stays
  · rw [joins]
    exact joinKeys_moves room

theorem textEntries_length_le (bytes : List Byte) :
    (textEntries bytes).length ≤ bytes.length := by
  rw [textEntries, List.length_map]
  exact List.length_filterMap_le ..

theorem offerText_moves (bytes) : s.kept.port.Moves (s.offerText bytes).kept.port := by
  obtain ⟨k, data, refused⟩ | ⟨room, joins⟩ := offerText_cases s bytes
  · rw [refused, raise_kept]
    exact .stays
  · rw [joins]
    have entries := textEntries_length_le bytes
    exact joinKeys_moves (by omega)

theorem execKeyFrame_moves (code flags) : MovesQueue s (execKeyFrame code flags s) := by
  unfold execKeyFrame
  split
  · rw [movesQueue_next, finish_port, ← takeFrame_port]
    exact offerKey_moves ..
  · exact movesQueue_of_port rfl

theorem execTextFrame_moves (bytes) : MovesQueue s (execTextFrame bytes s) := by
  unfold execTextFrame
  split
  · rw [movesQueue_next, finish_port, ← takeFrame_port]
    exact offerText_moves ..
  · exact movesQueue_of_port rfl

theorem takeHead_port : s.takeHead.kept.port =
    ⟨s.power, s.keys.tail, busyLevel (Config.keyPlaces - s.keys.tail.length) s.link.busyLine⟩ :=
  rfl

@[simp] theorem keyStays_port : s.keyStays.kept.port = s.kept.port := rfl

/-- A key that is taken leaves the queue, and nothing it then does writes the queue again. -/
theorem examine_moves {act : KeyEntry → State → Option State} (k)
    (h : ∀ e u, KeepsPort u (act e u)) : MovesQueue s (.next (s.examine k act)) := by
  unfold State.examine
  split
  · exact movesQueue_of_port rfl
  · split
    · exact movesQueue_of_port rfl
    · split
      · exact movesQueue_of_port keyStays_port
      · split
        · exact movesQueue_of_port keyStays_port
        · next t acts =>
            rw [movesQueue_next, conclude_port, (h _ _).of_eq acts, takeHead_port]
            refine .follows _ ?_
            rw [List.length_tail]
            change _ ≤ max _ s.keys.length
            omega

theorem examine_onNewLine_moves {act : KeyEntry → State → Option State} (k)
    (h : ∀ e u, KeepsPort u (act e u)) :
    MovesQueue s (.next (s.examine k fun e t => t.onNewLine e (act e))) :=
  examine_moves k fun e _ => onNewLine_keepsPort e (h e)

theorem examine_onThisLine_moves {act : State → Option State} (k)
    (h : ∀ u, KeepsPort u (act u)) :
    MovesQueue s (.next (s.examine k fun _ t => t.onThisLine act)) :=
  examine_moves k fun _ _ => onThisLine_keepsPort h

/-- The examination of INDEX and REVERSE_INDEX acts on a settled line, refuses or waits. -/
theorem examineIndex_moves (k i) : MovesQueue s (.next (s.examineIndex k i)) := by
  refine examine_moves k fun e u => ?_
  repeat' split
  · simp
  · exact indexOn_keepsPort i
  · exact indexOn_keepsPort i
  · simp
  · simp
  · simp

/-- A first examination that only ends the line leaves the key at the head. -/
theorem index_moves (k i) :
    MovesQueue s (.next (if s.endsForIndex k then s.keyStays.prepareIndex.conclude s
      else s.examineIndex k i)) := by
  split
  · exact movesQueue_of_port (by simp)
  · exact examineIndex_moves k i

theorem execAcceptWord_moves : MovesQueue s (execAcceptWord s) := by
  refine examine_moves _ fun e u => ?_
  split <;> simp

theorem execAddWord_moves : MovesQueue s (execAddWord s) := by
  refine examine_moves _ fun e u => ?_
  split <;> simp

theorem execUnknownRequestCode_moves (n c a) : MovesQueue s (execUnknownRequestCode n c a s) := by
  unfold execUnknownRequestCode
  split
  · exact movesQueue_of_port rfl
  · exact movesQueue_of_port
      (offerRequest_port n c a (ActsKeepPort.gateAdjust fun u => answer_port .unknown))

theorem offerRequest_moves {act : State → Acted} (n c a) (h : ActsKeepPort act) :
    MovesQueue s (.next (s.offerRequest n c a act)) :=
  movesQueue_of_port (offerRequest_port n c a h)

/-! ## Every command -/

theorem exec_moves (c : Instr) (s : State) : MovesQueue s (exec c s) := by
  cases c with
  | powerUp => exact execPowerUp_moves
  | mainPowerFail => exact execMainPowerFail_moves
  | resetPinAssert => exact execResetPinAssert_moves
  | resetPinRelease => exact execResetPinRelease_moves
  | keyFrame code flags => exact execKeyFrame_moves code flags
  | textFrame bytes => exact execTextFrame_moves bytes
  | transmitComplete => exact execTransmitComplete_moves
  | setMargins n a => exact offerRequest_moves n _ a (doSetMargins_port a).gateAdjust
  | setTab n a => exact offerRequest_moves n _ a (doSetTab_port a).gateAdjust
  | clearTab n a => exact offerRequest_moves n _ a (doClearTab_port a).gateAdjust
  | clearTabs n a => exact offerRequest_moves n _ a (doClearTabs_port a).gateAdjust
  | setPitch n a => exact offerRequest_moves n _ a (doSetPitch_port a).gateAdjust
  | setSpacing n a => exact offerRequest_moves n _ a (doSetSpacing_port a).gateAdjust
  | setImpression n a => exact offerRequest_moves n _ a (doSetImpression_port a).gateAdjust
  | setTypingMode n a => exact offerRequest_moves n _ a (doSetTypingMode_port a).gateAdjust
  | setSpellMode n a => exact offerRequest_moves n _ a (doSetSpellMode_port a).gateAdjust
  | setToneVolume n a => exact offerRequest_moves n _ a (doSetToneVolume_port a).gateAdjust
  | addWordRequest n a => exact offerRequest_moves n _ a (doAddWord_port a).gateAdjust
  | removeWord n a => exact offerRequest_moves n _ a (doRemoveWord_port a).gateAdjust
  | enableNotices n a => exact offerRequest_moves n _ a (doMask_port _ a).gateAdjust
  | disableNotices n a => exact offerRequest_moves n _ a (doMask_port _ a).gateAdjust
  | readPage n a => exact offerRequest_moves n _ a (doReadPage_port a)
  | writeTestPattern n a => exact offerRequest_moves n _ a (doWriteTestPattern_port a).gateAdjust
  | clearErrorLog n a => exact offerRequest_moves n _ a (doClearErrorLog_port a).gateAdjust
  | readLine n a => exact offerRequest_moves n _ a (doReadLine_port a).gateAdjust
  | pauseRequest n a => exact offerRequest_moves n _ a (doPause_port _ a).gateBoth
  | continueRequest n a => exact offerRequest_moves n _ a (doPause_port _ a).gateBoth
  | resume n a => exact offerRequest_moves n _ a (doResume_port a).gateBoth
  | restart n a => exact offerRequest_moves n _ a (doRestart_port a)
  | soundTone n a => exact offerRequest_moves n _ a (doSoundTone_port a)
  | enterAdjust n a => exact offerRequest_moves n _ a (doEnterAdjust_port a).gateBoth
  | adjustStep n a => exact offerRequest_moves n _ a (doAdjustStep_port a).gateService
  | testStrike n a => exact offerRequest_moves n _ a (doTestStrike_port a).gateService
  | leaveAdjust n a => exact offerRequest_moves n _ a (doLeaveAdjust_port a).gateService
  | unknownRequestCode n c a => exact execUnknownRequestCode_moves n c a
  | graphicCode => exact examine_onNewLine_moves _ fun e _ => graphicOn_keepsPort e
  | space => exact examine_onNewLine_moves _ fun e _ => spaceOn_keepsPort e
  | tab => exact examine_onNewLine_moves _ fun e _ => tabOn_keepsPort e
  | decimalTab => exact examine_onNewLine_moves _ fun e _ => decimalOn_keepsPort e
  | returnKey => exact examine_onNewLine_moves _ fun _ _ => returnOn_keepsPort
  | index => exact index_moves .index 1
  | reverseIndex => exact index_moves .reverseIndex (-1)
  | halfUp => exact examine_onNewLine_moves _ fun _ _ => halfLine_keepsPort (-4)
  | halfDown => exact examine_onNewLine_moves _ fun _ _ => halfLine_keepsPort 4
  | backspace => exact examine_onThisLine_moves _ fun _ => backspaceOn_keepsPort
  | forward => exact examine_onThisLine_moves _ fun _ => forwardOn_keepsPort
  | relocate => exact examine_onThisLine_moves _ fun _ => relocateOn_keepsPort
  | correct => exact examine_moves _ fun _ _ => correctOn_keepsPort
  | wordErase => exact examine_moves _ fun _ _ => eraseOn_keepsPort .word
  | lineErase => exact examine_moves _ fun _ _ => eraseOn_keepsPort .line
  | acceptWord => exact execAcceptWord_moves
  | addWord => exact execAddWord_moves
  | center => exact examine_onNewLine_moves _ fun _ _ => setFormat_keepsPort .center
  | flushRight => exact examine_onNewLine_moves _ fun _ _ => setFormat_keepsPort .flushRight
  | marginRelease => exact examine_onNewLine_moves _ fun _ _ => toggleRelease_keepsPort
  | setLeft => exact examine_onNewLine_moves _ fun _ _ => setOrClick_keepsPort _ _
  | setRight => exact examine_onNewLine_moves _ fun _ _ => setOrClick_keepsPort _ _
  | tabSet => exact examine_onNewLine_moves _ fun _ _ => setOrClick_keepsPort _ _
  | tabClear => exact examine_onNewLine_moves _ fun _ _ => setOrClick_keepsPort _ _
  | bold => exact examine_moves _ fun _ _ => by simp
  | underline => exact examine_moves _ fun _ _ => by simp
  | printHold => exact examine_moves _ fun _ _ => by simp
  | unknownKeyCode => exact examine_moves _ fun _ _ => by simp
  -- No branch of the other commands writes the view.
  | frameError _ | frameGapTimeout _ | resyncIdleExpiry | releaseRunStep | eraseStep
  | carrierMoveComplete _ | wheelRotationComplete | platenMotionComplete | fire | pulseEnd
  | settleEnd | advanceEnd | decayEvent | homingOffSwitchEnd | carrierHomeFound
  | carrierHomeSearchLimit | notchTrailingEdge _ | notchClassified | searchRevolutionLimit
  | rawLevelChange _ _ | qualificationTimerExpiry _ _ | sensingSample _ | dictReadComplete _
  | blinkToggle | messageExpiry | displaySendComplete | toneComplete | resyncByteReceived
  | encoderMarkPassed | backupSupplyLost =>
    simp only [exec, execFrameError, execFrameGapTimeout, execResyncIdleExpiry,
      execReleaseRunStep, execEraseStep, execCarrierMoveComplete, execWheelRotationComplete,
      execPlatenMotionComplete, execFire, execPulseEnd, execSettleEnd, execAdvanceEnd,
      execDecayEvent, execHomingOffSwitchEnd, execCarrierHomeFound, execCarrierHomeSearchLimit,
      execNotchTrailingEdge, execNotchClassified, execSearchRevolutionLimit, execRawLevelChange,
      execQualificationTimerExpiry, execSensingSample, execDictReadComplete, execBlinkToggle,
      execMessageExpiry, execDisplaySendComplete, execToneComplete, execResyncByteReceived,
      execEncoderMarkPassed, execBackupSupplyLost]
    repeat' split
    all_goals exact movesQueue_of_port (by simp)

/-! ## What every step keeps -/

section Moves
variable {p q : KeyPort}

theorem KeyPort.Moves.bounded (h : p.Moves q) (bounded : p.keys.length ≤ Config.keyPlaces) :
    q.keys.length ≤ Config.keyPlaces := by
  cases h with
  | stays => exact bounded
  | follows ks fits => exact fits.trans (max_le le_rfl bounded)
  | starts w => exact Nat.zero_le _
  | rests off fits => exact fits.trans bounded

/-- BUSY stands where the free count asks for it (R177). -/
def KeyPort.BusySound (p : KeyPort) : Prop :=
  (64 - p.keys.length ≤ 8 → p.busy = true) ∧ (24 ≤ 64 - p.keys.length → p.busy = false)

theorem KeyPort.Moves.busySound (h : p.Moves q) (live : q.live = true)
    (sound : p.live = true → p.BusySound) : q.BusySound := by
  cases h with
  | stays => exact sound live
  | follows ks =>
    have ⟨asserted, deasserted, _⟩ := busyLevel_cases (Config.keyPlaces - ks.length) p.busy
    exact ⟨asserted, deasserted⟩
  | starts w => exact ⟨fun few => absurd few (by simp), fun _ => rfl⟩
  | rests off => exact absurd live (by simp [off])

/-- Inside the band BUSY keeps its level; a start leaves the queue outside it. -/
theorem KeyPort.Moves.busy_kept (h : p.Moves q) (live : q.live = true)
    (above : 8 < 64 - q.keys.length) (below : 64 - q.keys.length < 24) : q.busy = p.busy := by
  cases h with
  | stays => rfl
  | follows ks =>
    have ⟨_, _, kept⟩ := busyLevel_cases (Config.keyPlaces - ks.length) p.busy
    exact kept above below
  | starts w => exact absurd below (by simp)
  | rests off => exact absurd live (by simp [off])

end Moves

/-- A step moves the view as its command does; the queue of commands is no part of it. -/
theorem step_moves (next : step s = .next t) : s.kept.port.Moves t.kept.port := by
  cases pending : s.pending with
  | nil =>
    obtain rfl : s = t := by simpa [pending] using next
    exact .stays
  | cons c rest =>
    rw [step_cons c rest pending] at next
    exact exec_moves c { s with pending := rest } t next

/-- Settles O55: what a command can do to the Key Queue and BUSY, case by case. -/
theorem busyFollowsKeyQueue : Obligations.BusyFollowsKeyQueue := by
  intro s t bounded sound next
  have moves := step_moves next
  exact ⟨moves.bounded bounded, fun live => ⟨moves.busySound live sound,
    fun _ above below => moves.busy_kept live above below⟩⟩

end Sys2Proof.Machine
end

section
/-! The laws of the Line Record are not kept by every step (R5, R13). `State.LineSound` lets a TAB cell be
QUEUED, with an entry of the Strike Queue that names it, and gives a TAB no greatest escapement. CORRECT
withdraws that entry and turns a cell inside the line into a GAP of the same escapement (R12), which may
then pass the 36 steps of R5. No run of the model queues a TAB, whose strike plan is empty (R57); the
statement, however, is about every state that meets the laws. -/

namespace Sys2Proof.Machine

/-- A TAB cell of 40 steps, QUEUED. -/
def queuedTab : Cell :=
  { id := 0, kind := .tab, code := none, overCode := none, x := 120, e := 40, voff := 0, bold := false,
    underline := false, wheelId := none, energy := none, ribbon := none, glyphs := 0,
    state := .queued, prior := none, wordId := none }

/-- The SPACE cell that follows it. -/
def spaceAfterTab : Cell :=
  { queuedTab with id := 1, kind := .space, x := 160, e := 12, state := .struck }

/-- The entry that names the TAB cell. -/
def tabEntry : Entry := { Entry.plain .underscore with cell := some 0, first := true, last := true }

/-- A part in FAULT whose line holds the QUEUED TAB and the SPACE, the cursor between them, and whose
typist corrects. -/
def correctingTab : State :=
  { State.reset with
    pending := [.correct],
    keys := [⟨0x07, .key, false⟩],
    line := { State.reset.line with cursor := 1, cells := [queuedTab, spaceAfterTab] },
    text := { State.reset.text with headDue := true, nextCell := 2 },
    strikes := ⟨[tabEntry], 1⟩,
    seq := { State.reset.seq with mech := .fault, startup := none } }

theorem correctingTab_lineBounded : correctingTab.LineBounded := by
  unfold State.LineBounded
  decide

theorem groupsStandTogether_singleton {e : Entry} (last : e.last = true) :
    GroupsStandTogether [e] := by
  intro i f here
  cases i with
  | zero =>
    obtain rfl : e = f := by simpa using here
    refine ⟨fun h => by simp [last] at h, fun _ j g after there => ?_⟩
    cases j with
    | zero => exact absurd after (Nat.lt_irrefl 0)
    | succ j => simp at there
  | succ i => simp at here

theorem correctingTab_lineSound : correctingTab.LineSound where
  chain := ⟨rfl, rfl, trivial⟩
  onPaper := by decide
  escapements := by decide
  tail := by decide
  entriesRefer := by
    intro e member id names
    obtain rfl := List.mem_singleton.mp member
    exact ⟨queuedTab, List.mem_cons_self, Option.some.inj names, .inl rfl⟩
  cellsReferred := by
    unfold Cell.inWork
    decide
  spaces := by decide
  identities := by decide
  groups := groupsStandTogether_singleton rfl
  returnEntry := fun _ h => nomatch h
  glyphs := by decide
  margins := by decide
  startup := by decide

/-- The state after CORRECT: the TAB, its entry withdrawn, has become a GAP of 40 steps. -/
def correctedTab : State :=
  match step correctingTab with
  | .next t => t
  | _ => correctingTab

theorem step_correctingTab : step correctingTab = .next correctedTab := rfl

theorem correctedTab_wideGap : ∃ c ∈ correctedTab.line.cells, c.kind = .gap ∧ c.e = 40 := by
  decide

/-- Refutes O56, its second part: CORRECT on a QUEUED TAB of 40 steps leaves a GAP wider than the 36 steps
R5 gives every cell but a TAB. -/
theorem not_cursorAndCellsStayInLine : ¬ Obligations.CursorAndCellsStayInLine := by
  rintro ⟨_, keepsLaws⟩
  have sound := keepsLaws correctingTab correctedTab correctingTab_lineBounded
    correctingTab_lineSound step_correctingTab
  obtain ⟨c, member, gap, wide⟩ := correctedTab_wideGap
  have narrow := sound.escapements c (List.mem_append_left _ member) (by simp [gap])
  omega

end Sys2Proof.Machine
end

section
/-! What every step keeps of the heat account, the Strike Queue, the display window, the frame error log
and the Retained Area (R71, R117, R160, R174, R186). `View` collects the fields these laws speak of;
`View.Steady` says what an operation may do to them. The lemmas say per operation that the view is left as
it was (`_view`) or that it goes on steadily (`_steady`); `State.Goes` says once what a command can do. -/

namespace Sys2Proof.Machine

/-! ## The view -/

/-- The fields that the laws speak of. -/
structure View where
  origin : Nat
  heat : Nat
  strikes : Nat
  log : Option ErrorRecord
  count : Nat
  settings : Settings
  retained : Retained

/-- The view of a state. -/
def State.view (s : State) : View :=
  ⟨s.display.origin, s.hammer.heat, s.strikes.entries.length, s.link.errorLog, s.link.errorCount,
    s.settings, s.retained⟩

/-- The laws of the Retained Area, of a view. -/
def View.RetainedSound (v : View) : Prop :=
  v.settings = v.retained.settings ∧ v.settings.tabs.length ≤ Config.tabPlaces ∧
    v.settings.tabs.Pairwise (· < ·) ∧ v.retained.words.length ≤ Config.wordPlaces ∧
    ∀ t : Trim, -t.limit ≤ v.retained.trim t ∧ v.retained.trim t ≤ t.limit

/-- The window stays where it is, and the laws of the heat account, the Strike Queue and the Retained Area
are kept. -/
structure View.Calm (v w : View) : Prop where
  origin : w.origin = v.origin
  heat : v.heat ≤ Config.heatFull → w.heat ≤ Config.heatFull
  strikes : v.strikes ≤ Config.strikePlaces → w.strikes ≤ Config.strikePlaces
  retained : v.RetainedSound → w.RetainedSound

/-- A record in the frame error log stays, and the count stays between 1 and 255. -/
def View.KeepsLog (v w : View) : Prop :=
  ∀ r, v.log = some r → 1 ≤ v.count ∧ v.count ≤ 255 → w.log = some r ∧ 1 ≤ w.count ∧ w.count ≤ 255

/-- What every operation but a start and CLEAR_ERROR_LOG does to the view. -/
structure View.Steady (v w : View) : Prop extends View.Calm v w where
  log : v.KeepsLog w

@[simp] theorem View.Steady.refl (v : View) : v.Steady v :=
  ⟨⟨rfl, id, id, id⟩, fun _ h c => ⟨h, c⟩⟩

theorem View.Calm.trans {u v w : View} (h : u.Calm v) (k : v.Calm w) : u.Calm w :=
  ⟨k.origin.trans h.origin, k.heat ∘ h.heat, k.strikes ∘ h.strikes, k.retained ∘ h.retained⟩

theorem View.Steady.trans {u v w : View} (h : u.Steady v) (k : v.Steady w) : u.Steady w :=
  ⟨h.toCalm.trans k.toCalm, fun r hr hc =>
    have ⟨kept, count⟩ := h.log r hr hc
    k.log r kept count⟩

variable {s t : State} {v : View}

/-! ## The shared operations -/

@[simp] theorem hearCursor_origin (a b : Nat) (d : Display) : (d.hearCursor a b).origin = d.origin := by
  unfold Display.hearCursor
  split <;> rfl

@[simp] theorem raise_view (k d) : (s.raise k d).view = s.view := rfl
@[simp] theorem requestTone_view (k r) : (s.requestTone k r).view = s.view := rfl
@[simp] theorem click_view : s.click.view = s.view := rfl
@[simp] theorem putMessage_view (a b) : (s.putMessage a b).view = s.view := rfl
@[simp] theorem emptySlot_view : s.emptySlot.view = s.view := rfl
@[simp] theorem dropWordMessage_view (i) : (s.dropWordMessage i).view = s.view := by
  unfold State.dropWordMessage
  repeat' split
  all_goals rfl
@[simp] theorem dropAnyWordMessage_view : s.dropAnyWordMessage.view = s.view := by
  unfold State.dropAnyWordMessage
  repeat' split
  all_goals rfl
@[simp] theorem raiseLineFull_view (c) : (s.raiseLineFull c).view = s.view := rfl
@[simp] theorem raiseLooseLine_view (a b) : (s.raiseLooseLine a b).view = s.view := rfl
@[simp] theorem raiseLiftRefused_view (a b) : (s.raiseLiftRefused a b).view = s.view := rfl
@[simp] theorem raiseDropped_view (a b) : (s.raiseDropped a b).view = s.view := rfl
@[simp] theorem raiseKeyLost_view (a b c) : (s.raiseKeyLost a b c).view = s.view := rfl
@[simp] theorem noteR23_view : s.noteR23.view = s.view := rfl
@[simp] theorem mapCell_view (i f) : (s.mapCell i f).view = s.view := rfl
@[simp] theorem setCells_view (c) : (s.setCells c).view = s.view := rfl
@[simp] theorem startRun_view (k e) : (s.startRun k e).view = s.view := rfl
@[simp] theorem setCursor_view (c) : (s.setCursor c).view = s.view := by
  simp [State.setCursor, State.view]
@[simp] theorem removeCell_view (i) : (s.removeCell i).view = s.view := by
  simp [State.removeCell, State.view]
@[simp] theorem insertCell_view (i c) : (s.insertCell i c).view = s.view := by
  simp [State.insertCell, State.view]
@[simp] theorem closeLine_view : s.closeLine.view = s.view := by
  simp [State.closeLine, State.view]
@[simp] theorem openLine_view (a n) : (s.openLine a n).view = s.view := by
  simp [State.view]
@[simp] theorem nextLine_view : s.nextLine.view = s.view := by simp [State.nextLine]
@[simp] theorem bellAfter_view (e) : (s.bellAfter e).view = s.view := by
  unfold State.bellAfter
  simp only
  split <;> rfl

theorem replace_view (h : s.replace = some t) : t.view = s.view := by
  obtain rfl | ⟨cells, _, rfl, _⟩ := replace_cases h <;> rfl

/-- An append, refused or not, keeps the Strike Queue within its places. -/
@[simp] theorem appendGroup_steady (h : v.Steady s.view) (es) : v.Steady (s.appendGroup es).view := by
  refine h.trans ⟨⟨?_, ?_, fun fits => appendGroup_bounded es fits, ?_⟩, ?_⟩
  all_goals unfold State.appendGroup; split
  all_goals first | exact rfl | exact id | exact fun _ k c => ⟨k, c⟩

/-- A withdrawal leaves no more entries than there were. -/
@[simp] theorem withdraw_steady (h : v.Steady s.view) (p) : v.Steady (s.withdraw p).view := by
  refine h.trans ⟨⟨?_, ?_, fun fits => ?_, ?_⟩, ?_⟩
  case refine_3 =>
    change (s.withdraw p).strikes.entries.length ≤ _
    rw [withdraw_entries]
    exact (List.length_filter_le _ _).trans fits
  all_goals unfold State.withdraw; simp only; split
  all_goals first | exact rfl | exact id | exact fun _ k c => ⟨k, c⟩

/-! ## Release runs -/

@[simp] theorem releaseCell_steady (h : v.Steady s.view) (c) : v.Steady (s.releaseCell c).view := by
  unfold State.releaseCell
  simp only
  repeat' split
  all_goals simp [h]
@[simp] theorem appendCarry_view (c) : (s.appendCarry c).view = s.view := by
  unfold State.appendCarry
  simp only
  repeat' split
  all_goals simp
theorem foldl_view {α : Type} (f : State → α → State) (h : ∀ s a, (f s a).view = s.view)
    (l : List α) (s : State) : (l.foldl f s).view = s.view := by
  induction l generalizing s with
  | nil => rfl
  | cons a l ih => rw [List.foldl_cons, ih, h]
theorem foldl_steady {α : Type} (f : State → α → State)
    (h : ∀ (s : State) (a : α), s.view.Steady (f s a).view)
    (l : List α) (s : State) : s.view.Steady (l.foldl f s).view := by
  induction l generalizing s with
  | nil => exact .refl _
  | cons a l ih => exact (h s a).trans (ih _)
@[simp] theorem appendAllCarry_view : s.appendAllCarry.view = s.view := by
  have appended := foldl_view (fun s c => State.appendCarry c s) (fun s c => appendCarry_view c)
    s.text.carry s
  simp only [State.appendAllCarry, setCursor_view]
  exact appended
@[simp] theorem endRun_view : s.endRun.view = s.view := rfl
@[simp] theorem returnEnding_steady (h : v.Steady s.view) : v.Steady s.returnEnding.view :=
  appendGroup_steady h [s.returnEntry]
@[simp] theorem wrapEnding_steady (h : v.Steady s.view) : v.Steady s.wrapEnding.view := by
  simp [State.wrapEnding, h]
@[simp] theorem runStep_steady (h : v.Steady s.view) (r) : v.Steady (s.runStep r).view := by
  unfold State.runStep
  simp only
  repeat' split
  all_goals simp [h]
@[simp] theorem runLoop_steady (h : v.Steady s.view) (n) : v.Steady (s.runLoop n).view := by
  induction n generalizing s with
  | zero => exact h
  | succ n ih =>
    unfold State.runLoop
    split
    · exact ih (runStep_steady h _)
    · exact h
@[simp] theorem noteWaiting_view : s.noteWaiting.view = s.view := rfl
@[simp] theorem runExamine_steady (h : v.Steady s.view) : v.Steady s.runExamine.view :=
  runLoop_steady h _

/-! ## Corrections and erases -/

@[simp] theorem dropHead_view : s.dropHead.view = s.view := rfl
@[simp] theorem withdrawCell_steady (h : v.Steady s.view) (c) : v.Steady (s.withdrawCell c).view :=
  withdraw_steady h _
@[simp] theorem takeBack_view (i c) : (s.takeBack i c).view = s.view := by
  unfold State.takeBack
  repeat' split
  all_goals simp
@[simp] theorem refuseLift_view (a c) : (s.refuseLift a c).view = s.view := rfl
@[simp] theorem liftOff_steady (h : v.Steady s.view) (i c) : v.Steady (s.liftOff i c).view := by
  simp [State.liftOff, h]
@[simp] theorem reopen_view : s.reopen.view = s.view := by simp [State.view]
@[simp] theorem withdrawReturn_steady (h : v.Steady s.view) : v.Steady s.withdrawReturn.view :=
  withdraw_steady h _
theorem undoReturn_steady {g} (h : v.Steady s.view) (undone : s.undoReturn g = some t) :
    v.Steady t.view := by
  unfold State.undoReturn at undone
  repeat' split at undone
  all_goals cases undone
  all_goals simp [h]

/-- Neither way a correction can end leaves the view unsteady. -/
def Correction.Steady (v : View) : Correction → Prop
  | .acts t => v.Steady t.view
  | .waits => True
  | .refused t => v.Steady t.view

@[simp] theorem Correction.steady_acts : (Correction.acts t).Steady v ↔ v.Steady t.view := Iff.rfl
@[simp] theorem Correction.steady_waits : Correction.waits.Steady v := trivial
@[simp] theorem Correction.steady_refused : (Correction.refused t).Steady v ↔ v.Steady t.view :=
  Iff.rfl

theorem deletePending_steady (h : v.Steady s.view) (i) : (s.deletePending i).Steady v := by
  unfold State.deletePending
  split
  · simp [h]
  · next u replaced =>
    have same : u.view = s.view := (replace_view replaced).trans (removeCell_view i)
    split <;> simp [same, h]
theorem correctAt_steady (h : v.Steady s.view) (i c) : (s.correctAt i c).Steady v := by
  unfold State.correctAt
  split
  · exact deletePending_steady h i
  all_goals repeat' split
  all_goals simp [h]
theorem correctReturned_steady (h : v.Steady s.view) : s.correctReturned.Steady v := by
  unfold State.correctReturned
  split
  · simp [h]
  · simp only
    split
    · trivial
    · trivial
    · split
      · trivial
      · split
        · next u undone =>
          simp [undoReturn_steady (withdrawCell_steady h _) undone]
        · trivial
    all_goals
      split
      · simp [h]
      · split
        · next u undone =>
          exact correctAt_steady (by simpa using undoReturn_steady h undone) _ _
        · trivial
theorem correction_steady (h : v.Steady s.view) : s.correction.Steady v := by
  unfold State.correction
  split
  · exact correctReturned_steady h
  · split
    · simp [h]
    · split
      · exact correctAt_steady h _ _
      · simp [h]
@[simp] theorem endErase_view : s.endErase.view = s.view := rfl
@[simp] theorem eraseLoop_steady (h : v.Steady s.view) (n) : v.Steady (s.eraseLoop n).view := by
  induction n generalizing s with
  | zero => exact h
  | succ n ih =>
    unfold State.eraseLoop
    split
    · exact h
    · split
      · exact h
      · have corrected := correction_steady h
        split <;> rename_i e <;> rw [e] at corrected
        · exact ih corrected
        · exact h
        · exact corrected
@[simp] theorem eraseContinue_steady (h : v.Steady s.view) : v.Steady s.eraseContinue.view := by
  unfold State.eraseContinue
  split
  · exact eraseLoop_steady h _
  · exact h

/-! ## Spelling -/

@[simp] theorem cancelRecord_view (r) : (s.cancelRecord r).view = s.view := by
  unfold State.cancelRecord
  simp only
  split
  · rw [dropWordMessage_view]
    rfl
  · rfl
@[simp] theorem cancelBroken_view (b) : (s.cancelBroken b).view = s.view :=
  foldl_view _ (fun _ r => cancelRecord_view r) _ _
@[simp] theorem raiseSpell_view (a r) : (s.raiseSpell a r).view = s.view := rfl
@[simp] theorem recordRun_view (r) : (s.recordRun r).view = s.view := by
  unfold State.recordRun
  split
  · rfl
  · simp only
    repeat' split
    all_goals rfl
@[simp] theorem recordAll_view : s.recordAll.view = s.view :=
  foldl_view _ (fun _ r => recordRun_view r) _ _
@[simp] theorem spellingStep_view (b c) : (s.spellingStep b c).view = s.view := by
  unfold State.spellingStep
  split <;> simp
@[simp] theorem textSettle_steady (h : v.Steady s.view) (l b) : v.Steady (s.textSettle l b).view := by
  simp [State.textSettle, h]

/-! ## The Print Sequencer -/

@[simp] theorem setStage_view (x) : (s.setStage x).view = s.view := rfl
@[simp] theorem takeFault_view (c) : (s.takeFault c).view = s.view := by
  unfold State.takeFault
  simp only
  split <;> rfl
@[simp] theorem fireReport_view (e) : (s.fireReport e).view = s.view := by
  unfold State.fireReport
  split <;> rfl
@[simp] theorem liftDone_view (i c) : (s.liftDone i c).view = s.view := by
  unfold State.liftDone
  repeat' split
  all_goals simp
@[simp] theorem completionReport_view (e) : (s.completionReport e).view = s.view := by
  unfold State.completionReport
  repeat' split
  all_goals simp
/-- A head that leaves makes room. -/
@[simp] theorem completeHead_steady (h : v.Steady s.view) : v.Steady s.completeHead.view := by
  refine h.trans ?_
  unfold State.completeHead
  split
  · exact .refl _
  · next e rest entries =>
    rw [noteR23_view, completionReport_view]
    refine ⟨⟨rfl, id, fun fits => ?_, id⟩, fun _ k c => ⟨k, c⟩⟩
    have shorter : s.strikes.entries.length = rest.length + 1 := by simp [entries]
    change s.strikes.entries.length ≤ _ at fits
    change rest.length ≤ _
    omega
/-- The heat rule grants no pulse that would pass full scale (R117). -/
@[simp] theorem tryFire_steady (h : v.Steady s.view) : v.Steady s.tryFire.view := by
  refine h.trans ?_
  obtain same | ⟨n, e, _, _, fits, _, _, fires⟩ := tryFire_cases (s := s)
  · rw [same]
    exact .refl _
  · rw [fires, State.beginFire, fireReport_view]
    exact ⟨⟨rfl, fun _ => fits, id, id⟩, fun _ k c => ⟨k, c⟩⟩
@[simp] theorem beginHeatWait_steady (h : v.Steady s.view) (e) : v.Steady (s.beginHeatWait e).view :=
  tryFire_steady h
@[simp] theorem startCarrier_view (x) : (s.startCarrier x).1.view = s.view := by
  unfold State.startCarrier
  repeat' split
  all_goals rfl
@[simp] theorem startWheel_view (p) : (s.startWheel p).view = s.view := by
  unfold State.startWheel
  simp only
  split <;> rfl
@[simp] theorem startPlaten_view (x u) : (s.startPlaten x u).view = s.view := by
  unfold State.startPlaten
  split <;> rfl
@[simp] theorem positionEnd_steady (h : v.Steady s.view) (e) : v.Steady (s.positionEnd e).view := by
  unfold State.positionEnd
  repeat' split
  all_goals simp [h]
@[simp] theorem moveAcross_view (e) : (s.moveAcross e).view = s.view := by
  unfold State.moveAcross
  simp only
  repeat' split
  all_goals simp
@[simp] theorem beginMotions_view (e x) : (s.beginMotions e x).view = s.view := by
  unfold State.beginMotions
  simp only
  repeat' split
  all_goals simp
@[simp] theorem beginPosition_steady (h : v.Steady s.view) (e) :
    v.Steady (s.beginPosition e).view := by
  unfold State.beginPosition
  refine positionEnd_steady ?_ e
  rw [beginMotions_view]
  exact h
@[simp] theorem advanceDone_steady (h : v.Steady s.view) : v.Steady s.advanceDone.view := by
  unfold State.advanceDone
  simp only
  split
  · exact h
  · exact completeHead_steady h
@[simp] theorem beginAdvance_steady (h : v.Steady s.view) (e) : v.Steady (s.beginAdvance e).view := by
  unfold State.beginAdvance
  simp only
  split
  · exact advanceDone_steady h
  · exact h
@[simp] theorem liftWithdrawnCell_view (c) : (s.liftWithdrawnCell c).view = s.view := by
  unfold State.liftWithdrawnCell
  split <;> rfl
@[simp] theorem withdrawHeadLift_steady (h : v.Steady s.view) (e) :
    v.Steady (s.withdrawHeadLift e).view := by
  simp [State.withdrawHeadLift, h]
@[simp] theorem holdLift_view : s.holdLift.view = s.view := rfl
@[simp] theorem beginHead_steady (h : v.Steady s.view) (e) : v.Steady (s.beginHead e).view := by
  unfold State.beginHead
  repeat' split
  all_goals simp [h]
@[simp] theorem setMech_view (m) : (s.setMech m).view = s.view := rfl
@[simp] theorem storeCauses_view : s.storeCauses.view = s.view := rfl
@[simp] theorem toHalted_view : s.toHalted.view = s.view := by
  unfold State.toHalted
  simp only
  split <;> simp
@[simp] theorem decideClear_steady (h : v.Steady s.view) : v.Steady s.decideClear.view := by
  unfold State.decideClear
  simp only
  repeat' split
  case h_2.isTrue | h_2.isFalse => exact beginHead_steady (by simp [h]) _
  all_goals simp [h]
@[simp] theorem decideState_steady (h : v.Steady s.view) : v.Steady s.decideState.view := by
  unfold State.decideState
  repeat' split
  all_goals simp [h]
@[simp] theorem seqLoop_steady (h : v.Steady s.view) (n) : v.Steady (s.seqLoop n).view := by
  induction n generalizing s with
  | zero => exact h
  | succ n ih =>
    unfold State.seqLoop
    simp only
    split
    · exact ih (by simp [h])
    · simp [h]
@[simp] theorem sequence_steady (h : v.Steady s.view) : v.Steady s.sequence.view :=
  seqLoop_steady h _

/-! ## The wheel change -/

@[simp] theorem dropTrailing_view (n) : (s.dropTrailing n).view = s.view := by
  induction n generalizing s with
  | zero => rfl
  | succ n ih =>
    unfold State.dropTrailing
    repeat' split
    all_goals simp [ih]
@[simp] theorem placeWhole_view : s.placeWhole.view = s.view := by
  unfold State.placeWhole
  split
  · exact dropTrailing_view _
  · rfl
@[simp] theorem returnRegion_steady (h : v.Steady s.view) (i) : v.Steady (s.returnRegion i).view := by
  unfold State.returnRegion
  simp only
  repeat' split
  · exact h
  · exact withdrawReturn_steady (withdraw_steady h _)
  · exact withdraw_steady h _
@[simp] theorem undoOutside_steady (h : v.Steady s.view) (c) : v.Steady (s.undoOutside c).view := by
  unfold State.undoOutside
  repeat' split
  all_goals simp [h]
@[simp] theorem dropIfMissing_view (c) : (s.dropIfMissing c).view = s.view := by
  unfold State.dropIfMissing
  repeat' split
  all_goals simp
@[simp] theorem replaceWheel_view : s.replaceWheel.view = s.view := rfl
@[simp] theorem dropPastEnd_view (n) : (s.dropPastEnd n).view = s.view := by
  induction n generalizing s with
  | zero => rfl
  | succ n ih =>
    unfold State.dropPastEnd
    repeat' split
    all_goals simp [ih]
@[simp] theorem wheelChange_steady (h : v.Steady s.view) : v.Steady s.wheelChange.view := by
  have undone := fun (l : List Cell) (u : State) =>
    foldl_steady (fun t c => State.undoOutside c t) (fun _ c => undoOutside_steady (.refl _) c) l u
  have dropped := fun (l : List Cell) (u : State) =>
    foldl_view (fun t c => State.dropIfMissing c t) (fun _ c => dropIfMissing_view c) l u
  unfold State.wheelChange
  simp only
  split
  all_goals
    simp only [placeWhole_view, bellAfter_view, dropPastEnd_view, replaceWheel_view, dropped]
    exact (returnRegion_steady h _).trans (undone _ _)

/-! ## The end of an event -/

@[simp] theorem sendFrame_view (w k p) : (s.sendFrame w k p).view = s.view := rfl
@[simp] theorem chooseFrame_view : s.chooseFrame.view = s.view := by
  unfold State.chooseFrame
  repeat' split
  all_goals rfl
@[simp] theorem transmit_view : s.transmit.view = s.view := by
  unfold State.transmit
  split <;> simp
/-- The end of an event writes the window alone. -/
theorem finish_view (o : State) :
    (s.finish o).view = { s.view with origin := (s.finish o).display.origin } := by
  obtain ⟨d, tr, sa, ba, n, h⟩ := finish_eq s o
  rw [h]
  rfl
theorem render_view : s.render.view = { s.view with origin := s.render.display.origin } := rfl

/-! ## Keys that make cells -/

/-- What a key makes of the state, where it acts, leaves the view steady. -/
def StaysSteady (v : View) (o : Option State) : Prop := ∀ t ∈ o, v.Steady t.view

@[simp] theorem staysSteady_none : StaysSteady v none := by simp [StaysSteady]
@[simp] theorem staysSteady_some : StaysSteady v (some t) ↔ v.Steady t.view := by simp [StaysSteady]

@[simp] theorem setKeys_view (ks) : (s.setKeys ks).view = s.view := rfl
@[simp] theorem takeHead_view : s.takeHead.view = s.view := rfl
@[simp] theorem keyStays_view : s.keyStays.view = s.view := rfl
@[simp] theorem refuseLost_view (e) : (s.refuseLost e).view = s.view := rfl
@[simp] theorem refuseFull_view (c) : (s.refuseFull c).view = s.view := rfl
@[simp] theorem closeAligned_view : s.closeAligned.view = s.view := rfl
@[simp] theorem releaseAll_view : s.releaseAll.view = s.view := rfl

theorem place_view {i c} (placed : s.place i c = some t) : t.view = s.view := by
  unfold State.place at placed
  simp only at placed
  repeat' split at placed
  all_goals cases placed
  simp
theorem make_view {next : State → State} (code i c) (h : ∀ u : State, (next u).view = u.view) :
    (s.make code i c next).view = s.view := by
  unfold State.make
  split
  · rfl
  · next u placed =>
    split
    · rfl
    · rw [h, bellAfter_view, place_view placed]
@[simp] theorem removeFrom_view (i n) : (s.removeFrom i n).view = s.view := by
  induction n generalizing s with
  | zero => rfl
  | succ n ih =>
    unfold State.removeFrom
    split <;> simp [ih]
@[simp] theorem dropClosing_view : s.dropClosing.view = s.view := by
  unfold State.dropClosing
  simp only
  split <;> exact dropTrailing_view _
@[simp] theorem justify_view : s.justify.view = s.view := by
  unfold State.justify
  simp only
  repeat' split
  all_goals simp
@[simp] theorem wrap_view (c) : (s.wrap c).view = s.view := by
  unfold State.wrap
  simp only
  split
  · exact removeFrom_view _ _
  · rw [justify_view]
    exact removeFrom_view _ _
@[simp] theorem tryWrap_view (e c) : (s.tryWrap e c).view = s.view := by
  unfold State.tryWrap
  simp only
  repeat' split
  all_goals simp
theorem appendGraphic_steady (h : v.Steady s.view) (e) : StaysSteady v (s.appendGraphic e) := by
  have released (b : Bool) (u : State) : (if b then u.releaseAll else u).view = u.view := by
    split <;> simp
  have closed (b : Bool) : (if b then s.closeAligned else s).view = s.view := by
    split <;> simp
  unfold State.appendGraphic
  simp only
  split
  · simp [h]
  · split
    · split
      · simp
      · simp [make_view _ _ _ fun u => releaseAll_view (s := u), h]
    · split
      · simp [h]
      · split
        · simp [h]
        · rw [staysSteady_some, make_view _ _ _ fun u => released _ u, closed]
          exact h
@[simp] theorem insertGraphic_view (e i) : (s.insertGraphic e i).view = s.view := by
  refine make_view _ _ _ fun u => ?_
  repeat' split
  all_goals rfl
theorem fillGap_steady (h : v.Steady s.view) (b c) : StaysSteady v (s.fillGap b c) := by
  unfold State.fillGap
  simp only
  split <;> simp [h]
theorem overstrike_steady (h : v.Steady s.view) (b c) : StaysSteady v (s.overstrike b c) := by
  unfold State.overstrike
  simp only
  split <;> simp [h]
theorem strikeOver_steady (h : v.Steady s.view) (b) : StaysSteady v (s.strikeOver b) := by
  unfold State.strikeOver
  split
  · exact fillGap_steady h _ _
  · split
    · exact overstrike_steady h _ _
    · simp [h]
theorem graphicOn_steady (h : v.Steady s.view) (e) : StaysSteady v (s.graphicOn e) := by
  unfold State.graphicOn
  split
  · simp
  · split
    · simp [h]
    · split
      · exact appendGraphic_steady h e
      · simp [h]
      · exact strikeOver_steady h _
@[simp] theorem terminate_view (b i) : (s.terminate b i).view = s.view := by
  unfold State.terminate
  repeat' split
  all_goals rfl
theorem appendBlank_steady (h : v.Steady s.view) (b c) : StaysSteady v (s.appendBlank b c) := by
  unfold State.appendBlank
  simp only
  repeat' split
  · simp
  · simp [make_view _ _ _ fun u => releaseAll_view (s := u), h]
  · simp [h]
  · simp [h]
  · simp [make_view _ _ _ fun u => terminate_view (s := u) _ _, h]
@[simp] theorem insertBlank_view (b i c) : (s.insertBlank b i c).view = s.view := by
  refine make_view _ _ _ fun u => ?_
  split <;> simp
@[simp] theorem overflowSpace_view (b c) : (s.overflowSpace b c).view = s.view := by
  unfold State.overflowSpace
  repeat' split
  all_goals simp
theorem spaceOn_steady (h : v.Steady s.view) (e) : StaysSteady v (s.spaceOn e) := by
  unfold State.spaceOn
  simp only
  repeat' split
  case h_1.isFalse => exact appendBlank_steady h _ _
  all_goals simp [h]
theorem tabOn_steady (h : v.Steady s.view) (e) : StaysSteady v (s.tabOn e) := by
  unfold State.tabOn
  simp only
  repeat' split
  all_goals first | exact appendBlank_steady h _ _ | simp [h]
@[simp] theorem openAligned_view (b i n) : (s.openAligned b i n).view = s.view := by
  unfold State.openAligned
  simp only
  repeat' split
  all_goals rfl
theorem decimalOn_steady (h : v.Steady s.view) (e) : StaysSteady v (s.decimalOn e) := by
  unfold State.decimalOn
  simp only
  repeat' split
  all_goals simp [h]
  all_goals simp [make_view _ _ _ fun u => openAligned_view (s := u) _ _ _, h]

/-! ## The other keys -/

@[simp] theorem endOfLine_view : s.endOfLine.view = s.view := placeWhole_view
theorem returnOn_steady (h : v.Steady s.view) : StaysSteady v s.returnOn := by
  rw [State.returnOn, staysSteady_some, startRun_view]
  exact endOfLine_view (s := s) ▸ h
theorem withRoom_steady (h : v.Steady s.view) (e) : StaysSteady v (s.withRoom e) := by
  unfold State.withRoom
  split <;> simp [h]
@[simp] theorem indexLine_view : s.indexLine.view = s.view := by simp [State.indexLine]
theorem indexOn_steady (h : v.Steady s.view) (i) : StaysSteady v (s.indexOn i) := by
  unfold State.indexOn
  refine withRoom_steady ?_ _
  split <;> simp [h]
@[simp] theorem prepareIndex_view : s.prepareIndex.view = s.view := endOfLine_view
theorem halfLine_steady (h : v.Steady s.view) (d) : StaysSteady v (s.halfLine d) := by
  unfold State.halfLine
  simp only
  split
  · exact withRoom_steady (by exact h) _
  · simp [h]
theorem moveCursor_steady (h : v.Steady s.view) (i j) : StaysSteady v (s.moveCursor i j) := by
  unfold State.moveCursor
  simp only
  repeat' split
  · exact withRoom_steady (by simp [h]) _
  all_goals simp [h]
theorem backspaceOn_steady (h : v.Steady s.view) : StaysSteady v s.backspaceOn := by
  unfold State.backspaceOn
  split
  · simp [h]
  · exact moveCursor_steady h _ _
theorem forwardOn_steady (h : v.Steady s.view) : StaysSteady v s.forwardOn := by
  unfold State.forwardOn
  split
  · simp [h]
  · exact moveCursor_steady h _ _
theorem relocateOn_steady (h : v.Steady s.view) : StaysSteady v s.relocateOn :=
  withRoom_steady (by simp [h]) _
theorem correctOn_steady (h : v.Steady s.view) : StaysSteady v s.correctOn := by
  have corrected := correction_steady h
  unfold State.correctOn
  split <;> rename_i e <;> rw [e] at corrected
  · simpa using corrected
  · simp
  · simpa using corrected
theorem eraseOn_steady (h : v.Steady s.view) (k) : StaysSteady v (s.eraseOn k) := by
  have corrected := correction_steady h
  unfold State.eraseOn
  split <;> rename_i e <;> rw [e] at corrected
  · simp
  · simpa using corrected
  · exact staysSteady_some.mpr (eraseLoop_steady (by exact corrected) _)
theorem setFormat_steady (h : v.Steady s.view) (f) : StaysSteady v (s.setFormat f) := by
  unfold State.setFormat
  split <;> exact staysSteady_some.mpr h
theorem toggleRelease_steady (h : v.Steady s.view) : StaysSteady v s.toggleRelease :=
  staysSteady_some.mpr h
@[simp] theorem accept_view (r) : (s.accept r).view = s.view := by
  simp only [State.accept, dropWordMessage_view]
  rfl

/-- A change of a setting keeps the laws of the Retained Area where it keeps those of the tab stops. -/
theorem writeSettings_steady (h : v.Steady s.view) {f : Settings → Settings}
    (few : ∀ q : Settings, q = s.settings → q.tabs.length ≤ Config.tabPlaces →
      (f q).tabs.length ≤ Config.tabPlaces)
    (ascending : ∀ q : Settings, q = s.settings → q.tabs.Pairwise (· < ·) →
      (f q).tabs.Pairwise (· < ·)) :
    v.Steady (s.writeSettings f).view := by
  refine h.trans ⟨⟨rfl, id, id, ?_⟩, fun _ k c => ⟨k, c⟩⟩
  rintro ⟨same, places, order, words, trims⟩
  exact ⟨congrArg f same, few _ rfl places, ascending _ rfl order, words, trims⟩

/-- A change of a setting other than the tab stops. -/
theorem writeSettings_steady_of_tabs (h : v.Steady s.view) {f : Settings → Settings}
    (tabs : ∀ q : Settings, (f q).tabs = q.tabs) : v.Steady (s.writeSettings f).view :=
  writeSettings_steady h (fun q _ k => by rwa [tabs]) fun q _ k => by rwa [tabs]

theorem insertStop_length (p : Nat) (ts : List Nat) : (insertStop p ts).length = ts.length + 1 := by
  induction ts with
  | nil => rfl
  | cons u us ih =>
    unfold insertStop
    split <;> simp [ih]
theorem mem_insertStop {p q : Nat} {ts : List Nat} : q ∈ insertStop p ts ↔ q = p ∨ q ∈ ts := by
  induction ts with
  | nil => simp [insertStop]
  | cons u us ih =>
    unfold insertStop
    split
    · simp
    · simp only [List.mem_cons, ih]
      tauto
theorem insertStop_ascending {p : Nat} {ts : List Nat} (new : p ∉ ts) (order : ts.Pairwise (· < ·)) :
    (insertStop p ts).Pairwise (· < ·) := by
  induction ts with
  | nil => simp [insertStop]
  | cons u us ih =>
    obtain ⟨least, rest⟩ := List.pairwise_cons.mp order
    obtain ⟨apart, fresh⟩ := not_or.mp (fun k => new (List.mem_cons.mpr k))
    unfold insertStop
    split
    · next lt =>
      refine List.pairwise_cons.mpr ⟨fun q k => ?_, order⟩
      obtain rfl | k := List.mem_cons.mp k
      · exact lt
      · exact lt.trans (least q k)
    · next ge =>
      refine List.pairwise_cons.mpr ⟨fun q k => ?_, ih fresh rest⟩
      obtain rfl | k := mem_insertStop.mp k
      · omega
      · exact least q k

/-- A stop that is new and has a place joins the list. -/
theorem writeStop_steady (h : v.Steady s.view) {p : Nat} (new : p ∉ s.settings.tabs)
    (room : s.settings.tabs.length < Config.tabPlaces) :
    v.Steady (s.writeSettings fun q => { q with tabs := insertStop p q.tabs }).view := by
  refine writeSettings_steady h ?_ ?_
  · rintro q rfl _
    rw [insertStop_length]
    exact room
  · rintro q rfl order
    exact insertStop_ascending new order
theorem filterStops_steady (h : v.Steady s.view) (p : Nat → Bool) :
    v.Steady (s.writeSettings fun q => { q with tabs := q.tabs.filter p }).view :=
  writeSettings_steady h (fun _ _ k => (List.length_filter_le _ _).trans k)
    fun _ _ k => k.filter _

theorem setOrClick_steady {ok : Bool} {f : Settings → Settings} (h : v.Steady s.view)
    (set : ok = true → v.Steady (s.writeSettings f).view) : StaysSteady v (s.setOrClick ok f) := by
  unfold State.setOrClick
  split
  · exact staysSteady_some.mpr (set ‹_›)
  · simp [h]

/-- The User Word List changes within its places. -/
theorem setWords_steady (h : v.Steady s.view) {ws : List (List Nat)}
    (room : s.retained.words.length ≤ Config.wordPlaces → ws.length ≤ Config.wordPlaces) :
    v.Steady (s.setWords ws).view :=
  h.trans ⟨⟨rfl, id, id, fun ⟨same, places, order, words, trims⟩ =>
    ⟨same, places, order, room words, trims⟩⟩, fun _ k c => ⟨k, c⟩⟩
theorem addTarget_steady (h : v.Steady s.view) (r) : v.Steady (s.addTarget r).view := by
  have accepted := fun (l : List WordRecord) (u : State) =>
    foldl_view (fun s q => State.accept q s) (fun _ q => accept_view q) l u
  unfold State.addTarget
  simp only [accepted]
  repeat' split
  · exact h
  · exact h
  · refine setWords_steady h fun _ => ?_
    rw [List.length_append, List.length_singleton]
    omega

theorem onNewLine_steady {act : State → Option State} (h : v.Steady s.view) (e)
    (acts : ∀ u : State, v.Steady u.view → StaysSteady v (act u)) :
    StaysSteady v (s.onNewLine e act) := by
  unfold State.onNewLine
  split
  · exact acts s h
  · simp [h]
  · exact acts _ (by simp [h])
theorem onThisLine_steady {act : State → Option State} (h : v.Steady s.view)
    (acts : ∀ u : State, v.Steady u.view → StaysSteady v (act u)) :
    StaysSteady v (s.onThisLine act) := by
  unfold State.onThisLine
  split
  · simp [h]
  · exact acts s h

end Sys2Proof.Machine
end

section
/-! What one command can do to the window, the heat account, the Strike Queue, the frame error log and
the Retained Area, and the invariants that follow from it (R71, R117, R160, R174, R186). -/

namespace Sys2Proof.Machine

variable {s t : State} {v : View}

/-! ## The start-up, recoveries and the wheel -/

@[simp] theorem mapStartup_view (f) : (s.mapStartup f).view = s.view := rfl
@[simp] theorem ready_view (u) : (s.ready u).view = s.view := by simp [State.ready, State.view]
@[simp] theorem checkReady_view : s.checkReady.view = s.view := by
  unfold State.checkReady
  repeat' split
  all_goals simp
@[simp] theorem stopAlarm_view : s.stopAlarm.view = s.view := by
  unfold State.stopAlarm
  split <;> rfl
@[simp] theorem toBoundary_view : s.toBoundary.view = s.view := rfl
@[simp] theorem recovered_view : s.recovered.view = s.view := by
  have settled : ∀ u : State, u.stopAlarm.view = u.view := fun _ => stopAlarm_view
  unfold State.recovered
  simp only
  repeat' split
  · rw [ready_view]
    exact settled _
  all_goals exact settled _
@[simp] theorem beginIdent_view : s.beginIdent.view = s.view := rfl
@[simp] theorem beginHoming_view : s.beginHoming.view = s.view := rfl
@[simp] theorem beginSensing_view : s.beginSensing.view = s.view := rfl
@[simp] theorem carrierHomed_view : s.carrierHomed.view = s.view := by
  unfold State.carrierHomed
  split <;> simp
@[simp] theorem carrierHomeFailed_view : s.carrierHomeFailed.view = s.view := by
  simp only [State.carrierHomeFailed, takeFault_view, mapStartup_view]
  rfl
@[simp] theorem leaveAdjust_view : s.leaveAdjust.view = s.view := rfl
@[simp] theorem identOver_view : s.identOver.view = s.view := rfl
@[simp] theorem letLiftGo_view (id) : (s.letLiftGo id).view = s.view := by
  unfold State.letLiftGo
  split <;> rfl
@[simp] theorem identSettled_view : s.identSettled.view = s.view := by
  unfold State.identSettled
  split <;> simp
@[simp] theorem turnToPetalZero_view : s.turnToPetalZero.view = s.view := rfl
/-- The state with which a read id comes into force, its WHEEL notice raised and the wheel turning to
petal 0, before the wheel change procedure (R98, R99). -/
def State.wheelRead (id : Nat) (s : State) : State :=
  let t := s.identOver
  let t := { t with wheel := { t.wheel with
      present := true, id := id, family := if id ≠ s.wheel.id then familyOf id else t.wheel.family } }
  let t := t.turnToPetalZero.letLiftGo id
  if id ≠ s.wheel.id || s.seq.startup.isSome then
    t.raise .wheel [byteOf id, byteOf t.wheel.family, byteOf (bit (knownFamily id).isNone)]
  else t

/-- A read runs the wheel change procedure where the id has changed and no start-up is in progress. -/
theorem readId_eq (id : Nat) (s : State) :
    s.readId id = (if id ≠ s.wheel.id && !s.seq.startup.isSome then (s.wheelRead id).wheelChange
      else s.wheelRead id).identSettled := by
  simp [State.readId, State.wheelRead]

@[simp] theorem wheelRead_view (id) : (s.wheelRead id).view = s.view := by
  unfold State.wheelRead
  simp only
  split
  · rw [raise_view, letLiftGo_view]
    rfl
  · rw [letLiftGo_view]
    rfl
@[simp] theorem readId_steady (h : v.Steady s.view) (id) : v.Steady (s.readId id).view := by
  rw [readId_eq, identSettled_view]
  split <;> simp [h]
@[simp] theorem noWheelFound_view : s.noWheelFound.view = s.view := by
  simp only [State.noWheelFound, identSettled_view]
  rfl
@[simp] theorem identFailed_view (c) : (s.identFailed c).view = s.view := by
  simp only [State.identFailed, takeFault_view]
  rfl
@[simp] theorem readInvalid_view (i) : (s.readInvalid i).view = s.view := by
  unfold State.readInvalid
  simp only
  split
  · rw [identFailed_view]
    rfl
  · rfl
@[simp] theorem homeNotch_view : s.homeNotch.view = s.view := rfl
@[simp] theorem dataNotch_steady (h : v.Steady s.view) (vs b) : v.Steady (s.dataNotch vs b).view := by
  unfold State.dataNotch
  simp only
  split
  · exact readId_steady h _
  · exact h
@[simp] theorem classified_steady (h : v.Steady s.view) (k) : v.Steady (s.classified k).view := by
  unfold State.classified
  split <;> first | exact h | simp [h]
@[simp] theorem overrun_view : s.overrun.view = s.view := by
  unfold State.overrun
  simp only
  split
  · rw [readInvalid_view]
    rfl
  · rfl

/-! ## Motions, the cover and sensing -/

@[simp] theorem drained_view : s.drained.view = s.view := by
  unfold State.drained
  split <;> rfl
@[simp] theorem motionEnded_steady (h : v.Steady s.view) : v.Steady s.motionEnded.view := by
  unfold State.motionEnded
  simp only
  split <;> simp [h]
@[simp] theorem moveEnded_steady (h : v.Steady s.view) : v.Steady s.moveEnded.view := by
  unfold State.moveEnded
  split <;> simp [h]
@[simp] theorem platenArrived_view (m) : (s.platenArrived m).view = s.view := rfl
@[simp] theorem afterPlatenMove_steady (h : v.Steady s.view) : v.Steady s.afterPlatenMove.view := by
  unfold State.afterPlatenMove
  repeat' split
  all_goals simp [h]
@[simp] theorem stopCarrier_view (d) : (s.stopCarrier d).view = s.view := rfl
@[simp] theorem stopMotions_view (d) : (s.stopMotions d).view = s.view := rfl
@[simp] theorem stopHoming_view (n) : (s.stopHoming n).view = s.view := by
  unfold State.stopHoming
  split <;> rfl
@[simp] theorem stopWork_view (d) : (s.stopWork d).view = s.view := stopHoming_view (s := s) d.carrier
@[simp] theorem stopEntry_view (d) : (s.stopEntry d).view = s.view := by
  unfold State.stopEntry
  simp only
  repeat' split
  all_goals rfl
@[simp] theorem coverOpens_view (d) : (s.coverOpens d).view = s.view := by simp [State.coverOpens]
@[simp] theorem coverCloses_view : s.coverCloses.view = s.view := by
  unfold State.coverCloses
  simp only
  split <;> rfl
@[simp] theorem qualifiedChange_steady (h : v.Steady s.view) (k d) :
    v.Steady (s.qualifiedChange k d).view := by
  unfold State.qualifiedChange
  repeat' split
  all_goals simp [h]
@[simp] theorem sensingEnds_view (c) : (s.sensingEnds c).view = s.view := by
  simp only [State.sensingEnds, checkReady_view]
  rfl

/-! ## Dictionary reads and the spelling mode -/

@[simp] theorem raiseDict_view (c m p) : (s.raiseDict c m p).view = s.view := rfl
@[simp] theorem verdict_view (l b) : (s.verdict l b).view = s.view := by
  unfold State.verdict
  simp only
  repeat' split
  all_goals rfl
@[simp] theorem endLookup_view (l b) : (s.endLookup l b).view = s.view := by
  unfold State.endLookup
  simp only
  split
  · rfl
  · exact verdict_view l b
@[simp] theorem romEnded_view (l r b) : (s.romEnded l r b).view = s.view := by
  unfold State.romEnded
  split
  · rfl
  · simp
@[simp] theorem bucketRead_view (r d) : (s.bucketRead r d).view = s.view := by
  unfold State.bucketRead
  repeat' (first | split | simp only)
  all_goals first | rfl | simp
@[simp] theorem headerRead_view (r d) : (s.headerRead r d).view = s.view := by
  unfold State.headerRead
  simp only
  split <;> rfl
@[simp] theorem dictRead_view (d) : (s.dictRead d).view = s.view := by
  unfold State.dictRead
  split <;> simp
@[simp] theorem discardRecords_view : s.discardRecords.view = s.view := by
  simp only [State.discardRecords, dropAnyWordMessage_view]
  rfl
@[simp] theorem spellModeChanged_view (m) : (s.spellModeChanged m).view = s.view := by
  unfold State.spellModeChanged
  split <;> simp

/-! ## Requests -/

/-- What a request does leaves the view steady. -/
def ActsSteady (act : State → Acted) : Prop := ∀ u : State, u.view.Steady (act u).state.view

@[simp] theorem answer_view (r) : (s.answer r).state.view = s.view := rfl
@[simp] theorem answerDone_view : s.answerDone.state.view = s.view := rfl

theorem ActsSteady.gateAdjust {act : State → Acted} (h : ActsSteady act) :
    ActsSteady fun s => s.gateAdjust (act s) := by
  intro s
  simp only [State.gateAdjust]
  split <;> simp [h s]
theorem ActsSteady.gateBoth {act : State → Acted} (h : ActsSteady act) :
    ActsSteady fun s => s.gateBoth (act s) := by
  intro s
  simp only [State.gateBoth]
  split
  · simp
  · exact h.gateAdjust s
theorem ActsSteady.gateService {act : State → Acted} (h : ActsSteady act) :
    ActsSteady fun s => s.gateService (act s) := by
  intro s
  simp only [State.gateService]
  repeat' split
  · simp
  · exact h s
  · simp

theorem doSetMargins_steady (a) : ActsSteady (State.doSetMargins a) := by
  intro s
  unfold State.doSetMargins
  repeat' split
  · exact writeSettings_steady_of_tabs (.refl _) fun _ => rfl
  all_goals simp
theorem doSetTab_steady (a) : ActsSteady (State.doSetTab a) := by
  intro s
  unfold State.doSetTab
  repeat' split
  case h_1.isFalse.isFalse.isFalse fresh room =>
    exact writeStop_steady (.refl _) (by simpa using fresh) (by omega)
  all_goals simp
theorem doClearTab_steady (a) : ActsSteady (State.doClearTab a) := by
  intro s
  unfold State.doClearTab
  repeat' split
  case h_1.isFalse.isTrue => exact filterStops_steady (.refl _) _
  all_goals simp

/-- The stops that CLEAR_TABS takes are strictly ascending positions of 0 to 1559, and the other way
round. -/
theorem goodStops_iff {ts : List Nat} :
    goodStops ts = true ↔ ts.Pairwise (· < ·) ∧ ∀ p ∈ ts, p ≤ Config.lastPosition := by
  induction ts with
  | nil => simp [goodStops]
  | cons p rest ih =>
    cases rest with
    | nil => simp [goodStops]
    | cons q rest =>
      simp only [goodStops, Bool.and_eq_true, decide_eq_true_eq, ih]
      constructor
      · rintro ⟨lt, order, fits⟩
        have upper := fits q List.mem_cons_self
        refine ⟨List.pairwise_cons.mpr ⟨fun r k => ?_, order⟩, fun r k => ?_⟩
        · obtain rfl | k := List.mem_cons.mp k
          · exact lt
          · exact lt.trans ((List.pairwise_cons.mp order).1 r k)
        · obtain rfl | k := List.mem_cons.mp k
          · omega
          · exact fits r k
      · rintro ⟨order, fits⟩
        obtain ⟨least, order⟩ := List.pairwise_cons.mp order
        exact ⟨least q List.mem_cons_self, order, fun r k => fits r (List.mem_cons_of_mem _ k)⟩

theorem doClearTabs_steady (a) : ActsSteady (State.doClearTabs a) := by
  intro s
  unfold State.doClearTabs
  repeat' split
  case h_1.isTrue good =>
    simp only [Bool.and_eq_true, decide_eq_true_eq] at good
    exact writeSettings_steady (.refl _) (fun _ _ _ => good.1)
      fun _ _ _ => (goodStops_iff.mp good.2).1
  all_goals simp
theorem doSetPitch_steady (a) : ActsSteady (State.doSetPitch a) := by
  intro s
  unfold State.doSetPitch
  repeat' split
  · exact writeSettings_steady_of_tabs (.refl _) fun _ => rfl
  all_goals simp
theorem doSetSpacing_steady (a) : ActsSteady (State.doSetSpacing a) := by
  intro s
  unfold State.doSetSpacing
  repeat' split
  · exact writeSettings_steady_of_tabs (.refl _) fun _ => rfl
  all_goals simp
theorem doSetImpression_steady (a) : ActsSteady (State.doSetImpression a) := by
  intro s
  unfold State.doSetImpression
  split
  · exact writeSettings_steady_of_tabs (.refl _) fun _ => rfl
  · simp
theorem doSetTypingMode_steady (a) : ActsSteady (State.doSetTypingMode a) := by
  intro s
  have set : ∀ m f, s.view.Steady (s.writeSettings fun q => { q with mode := m, format := f }).view :=
    fun _ _ => writeSettings_steady_of_tabs (.refl _) fun _ => rfl
  unfold State.doSetTypingMode
  repeat' split
  case h_1.isTrue.isTrue | h_1.isTrue.isFalse => exact set _ _
  all_goals simp
theorem doSetSpellMode_steady (a) : ActsSteady (State.doSetSpellMode a) := by
  intro s
  unfold State.doSetSpellMode
  repeat' split
  · refine sequence_steady (runExamine_steady ?_)
    rw [spellModeChanged_view]
    exact writeSettings_steady_of_tabs (.refl _) fun _ => rfl
  all_goals simp
@[simp] theorem volumeChanged_view : s.volumeChanged.view = s.view := by
  unfold State.volumeChanged
  split <;> rfl
theorem doSetToneVolume_steady (a) : ActsSteady (State.doSetToneVolume a) := by
  intro s
  unfold State.doSetToneVolume
  repeat' split
  · rw [answerDone_view, volumeChanged_view]
    exact writeSettings_steady_of_tabs (.refl _) fun _ => rfl
  all_goals simp
theorem doAddWord_steady (a) : ActsSteady (State.doAddWord a) := by
  intro s
  unfold State.doAddWord
  repeat' split
  case h_1.isFalse.isFalse.isFalse room =>
    refine setWords_steady (.refl _) fun _ => ?_
    rw [List.length_append, List.length_singleton]
    omega
  all_goals simp
theorem doRemoveWord_steady (a) : ActsSteady (State.doRemoveWord a) := by
  intro s
  unfold State.doRemoveWord
  repeat' split
  case h_1.isTrue =>
    exact setWords_steady (.refl _) fun words => (List.length_filter_le _ _).trans words
  all_goals simp

/-- A change of the Retained Area that leaves its settings, its words and its trims. -/
theorem retained_steady (h : v.Steady s.view) {u : View} (same : u = { s.view with retained := u.retained })
    (settings : u.retained.settings = s.retained.settings) (words : u.retained.words = s.retained.words)
    (trims : ∀ k, u.retained.trim k = s.retained.trim k) : v.Steady u := by
  refine h.trans ?_
  rw [same]
  refine ⟨⟨rfl, id, id, ?_⟩, fun _ k c => ⟨k, c⟩⟩
  rintro ⟨inUse, places, order, listed, bounds⟩
  refine ⟨inUse.trans settings.symm, places, order, ?_, fun k => ?_⟩
  · change u.retained.words.length ≤ _
    rw [words]
    exact listed
  · change -k.limit ≤ u.retained.trim k ∧ u.retained.trim k ≤ _
    rw [trims]
    exact bounds k

theorem doMask_steady (b a) : ActsSteady (State.doMask b a) := by
  intro s
  unfold State.doMask
  repeat' split
  · exact retained_steady (.refl _) rfl rfl rfl fun k => by cases k <;> rfl
  all_goals simp
theorem doReadPage_steady (a) : ActsSteady (State.doReadPage a) := by
  intro s
  unfold State.doReadPage
  repeat' split
  all_goals simp
theorem doReadLine_steady (a) : ActsSteady (State.doReadLine a) := by
  intro s
  unfold State.doReadLine
  repeat' split
  all_goals simp
theorem doWriteTestPattern_steady (a) : ActsSteady (State.doWriteTestPattern a) := by
  intro s
  unfold State.doWriteTestPattern
  split
  · exact retained_steady (.refl _) rfl rfl rfl fun k => by cases k <;> rfl
  · simp
theorem doPause_steady (b a) : ActsSteady (State.doPause b a) := by
  intro s
  unfold State.doPause
  split
  · exact sequence_steady (by exact .refl _)
  · simp
theorem doResume_steady (a) : ActsSteady (State.doResume a) := by
  intro s
  unfold State.doResume
  repeat' split
  all_goals exact .refl _
theorem doRestart_steady (a) : ActsSteady (State.doRestart a) := by
  intro s
  unfold State.doRestart
  split <;> exact .refl _
theorem doSoundTone_steady (a) : ActsSteady (State.doSoundTone a) := by
  intro s
  unfold State.doSoundTone
  repeat' split
  all_goals simp
theorem doEnterAdjust_steady (a) : ActsSteady (State.doEnterAdjust a) := by
  intro s
  unfold State.doEnterAdjust
  repeat' split
  all_goals exact .refl _

theorem setTrim_trim (r : Retained) (k j : Trim) (i : Int) :
    (r.setTrim k i).trim j = if j = k then i else r.trim j := by
  cases k <;> cases j <;> rfl
theorem setTrim_settings (r : Retained) (k : Trim) (i : Int) :
    (r.setTrim k i).settings = r.settings := by cases k <;> rfl
theorem setTrim_words (r : Retained) (k : Trim) (i : Int) : (r.setTrim k i).words = r.words := by
  cases k <;> rfl

/-- A trim takes no value outside its range (R191). -/
theorem doAdjustStep_steady (a) : ActsSteady (State.doAdjustStep a) := by
  intro s
  unfold State.doAdjustStep
  split
  · split
    · next k d _ _ =>
      dsimp only
      split
      · next range =>
        refine ⟨⟨rfl, id, id, ?_⟩, fun _ r c => ⟨r, c⟩⟩
        rintro ⟨inUse, places, order, listed, bounds⟩
        refine ⟨inUse.trans (setTrim_settings _ _ _).symm, places, order, ?_, fun j => ?_⟩
        · change (s.retained.setTrim k _).words.length ≤ _
          rw [setTrim_words]
          exact listed
        · change -j.limit ≤ (s.retained.setTrim k _).trim j ∧ _
          change _ ∧ (s.retained.setTrim k _).trim j ≤ _
          rw [setTrim_trim]
          split
          · next same =>
            rw [same]
            exact range
          · exact bounds j
      · simp
    · simp
  · simp
@[simp] theorem beginTest_steady (h : v.Steady s.view) (e) : v.Steady (s.beginTest e).view := by
  unfold State.beginTest
  split
  · exact beginPosition_steady (by exact h) _
  · simp [h]
theorem doTestStrike_steady (a) : ActsSteady (State.doTestStrike a) := by
  intro s
  unfold State.doTestStrike
  simp only
  repeat' split
  all_goals simp
@[simp] theorem beginLeaving_view : s.beginLeaving.view = s.view := by
  have moved : ∀ u x, (State.startCarrier x u).1.view = u.view := fun _ _ => startCarrier_view _
  unfold State.beginLeaving
  simp only
  repeat' split
  · rw [takeFault_view, moved]
    rfl
  · rw [leaveAdjust_view, moved]
    rfl
  · rw [moved]
    rfl
theorem doLeaveAdjust_steady (a) : ActsSteady (State.doLeaveAdjust a) := by
  intro s
  unfold State.doLeaveAdjust
  repeat' split
  all_goals simp

/-! ## What a command can do -/

/-- What one command can do: end in a render and the transmitter's choice, or in a render, after work that
leaves the view steady; leave the window and the cursor; empty the error log on CLEAR_ERROR_LOG; or make a
start, after which the part may be held at rest. -/
inductive State.Goes (c : Instr) (s : State) : State → Prop
  | event {u : State} (steady : s.view.Steady u.view) : s.Goes c (u.finish s)
  | renders {u : State} (steady : s.view.Steady u.view) : s.Goes c u.render
  | quiet {t : State} (steady : s.view.Steady t.view) (cursor : t.line.cursor = s.line.cursor) :
      s.Goes c t
  | clears {u : State} (n : Byte) (a : List Byte) (command : c = .clearErrorLog n a)
      (calm : s.view.Calm u.view) (log : u.link.errorLog = none ∧ u.link.errorCount = 0) :
      s.Goes c (u.finish s)
  | warm {u : State} (retained : u.retained = s.retained) : s.Goes c u.warmStart
  | cold {u : State} : s.Goes c u.coldStart
  | rests {u : State} (low : s.power.resetLow = true) (start : s.Goes c u)
      (none : u.link.errorLog = none) : s.Goes c u.atRest

/-- A command's outcome is one of `State.Goes`. -/
def GoesBy (c : Instr) (s : State) (o : Host.Outcome State Fault Refusal) : Prop :=
  ∀ t, o = .next t → s.Goes c t

variable {c : Instr}

theorem goesBy_next : GoesBy c s (.next t) ↔ s.Goes c t := by simp [GoesBy]

theorem goesBy_quiet (steady : s.view.Steady t.view) (cursor : t.line.cursor = s.line.cursor) :
    GoesBy c s (.next t) := goesBy_next.mpr (.quiet steady cursor)

theorem goesBy_unchanged : GoesBy c s (.next s) := goesBy_quiet (.refl _) rfl

theorem conclude_goes {u : State} (steady : s.view.Steady u.view) : s.Goes c (u.conclude s) :=
  .event (sequence_steady (textSettle_steady steady _ _))

theorem goesBy_finish {u : State} (steady : s.view.Steady u.view) :
    GoesBy c s (.next (u.finish s)) := goesBy_next.mpr (.event steady)

theorem goesBy_conclude {u : State} (steady : s.view.Steady u.view) :
    GoesBy c s (.next (u.conclude s)) := goesBy_next.mpr (conclude_goes steady)

/-! ## Power, starts and the link -/

theorem execPowerUp_goes : GoesBy c s (execPowerUp s) := by
  unfold execPowerUp
  simp only
  split
  · exact goesBy_unchanged
  · rw [goesBy_next]
    repeat' split
    · next low => exact .rests low (.warm rfl) rfl
    · exact .warm rfl
    · next low => exact .rests low .cold rfl
    · exact .cold
theorem execResetPinRelease_goes : GoesBy c s (execResetPinRelease s) := by
  unfold execResetPinRelease
  simp only
  split
  · rw [goesBy_next]
    split
    · exact .warm rfl
    · exact .quiet (.refl _) rfl
  · exact goesBy_unchanged
theorem chooseFrame_line : s.chooseFrame.line = s.line := by
  unfold State.chooseFrame
  repeat' split
  all_goals rfl
theorem execTransmitComplete_goes : GoesBy c s (execTransmitComplete s) := by
  unfold execTransmitComplete
  repeat' split
  · exact goesBy_unchanged
  · exact goesBy_unchanged
  · exact goesBy_next.mpr (.warm rfl)
  · refine goesBy_quiet ?_ (congrArg Line.cursor chooseFrame_line)
    rw [chooseFrame_view]
    exact .refl _
  · exact goesBy_quiet (by simp) (congrArg Line.cursor chooseFrame_line)
theorem joinKeys_view (new) : (s.joinKeys new).view = s.view := by
  unfold State.joinKeys
  simp only
  split <;> rfl
@[simp] theorem offerKey_view (b f) : (s.offerKey b f).view = s.view := by
  unfold State.offerKey
  simp only
  repeat' split
  all_goals first | rfl | exact joinKeys_view _
@[simp] theorem offerText_view (bs) : (s.offerText bs).view = s.view := by
  unfold State.offerText
  repeat' split
  all_goals first | rfl | exact joinKeys_view _
@[simp] theorem takeFrame_view (k p) : (s.takeFrame k p).view = s.view := rfl
/-- A frame in error adds no record to a log that holds one, and its count ends at 255 (R174). -/
theorem frameFails_steady (e h) : s.view.Steady (s.frameFails e h).view := by
  refine ⟨⟨rfl, id, id, id⟩, fun r logged count => ?_⟩
  change s.link.errorLog = some r at logged
  refine ⟨?_, ?_, ?_⟩
  · change some (s.link.errorLog.getD _) = some r
    rw [logged]
    rfl
  · change 1 ≤ min 255 (s.link.errorCount + 1)
    omega
  · exact min_le_left _ _

theorem offerRequest_goes {act : State → Acted} (n b a) (h : ActsSteady act) :
    GoesBy c s (.next (s.offerRequest n b a act)) := by
  unfold State.offerRequest
  simp only
  split
  · exact goesBy_unchanged
  · split
    · exact goesBy_finish (.refl _)
    · exact goesBy_finish (h (s.onRequest n b a))
/-- CLEAR_ERROR_LOG empties the log, or leaves it (R181). -/
theorem execClearErrorLog_goes (n a) : GoesBy (.clearErrorLog n a) s (execClearErrorLog n a s) := by
  unfold execClearErrorLog State.offerRequest
  simp only [goesBy_next]
  split
  · exact .quiet (.refl _) rfl
  · split
    · exact .event (.refl _)
    · simp only [State.gateAdjust, State.doClearErrorLog]
      repeat' split
      · exact .event (.refl _)
      · exact .clears n a rfl ⟨rfl, id, id, id⟩ ⟨rfl, rfl⟩
      · exact .event (.refl _)
theorem execUnknownRequestCode_goes (n b a) : GoesBy c s (execUnknownRequestCode n b a s) := by
  unfold execUnknownRequestCode
  split
  · exact goesBy_unchanged
  · exact offerRequest_goes n b a (ActsSteady.gateAdjust fun u => by simp)

/-! ## Keys -/

theorem examine_goes {act : KeyEntry → State → Option State} (k)
    (h : ∀ e (u : State), s.view.Steady u.view → StaysSteady s.view (act e u)) :
    GoesBy c s (.next (s.examine k act)) := by
  unfold State.examine
  repeat' split
  · exact goesBy_unchanged
  · exact goesBy_unchanged
  · exact goesBy_quiet (by simp) rfl
  · exact goesBy_quiet (by simp) rfl
  · next acts => exact goesBy_conclude (h _ _ (by simp) _ acts)
theorem examine_onNewLine_goes {act : KeyEntry → State → Option State} (k)
    (h : ∀ e (u : State), s.view.Steady u.view → StaysSteady s.view (act e u)) :
    GoesBy c s (.next (s.examine k fun e t => t.onNewLine e (act e))) :=
  examine_goes k fun e _ steady => onNewLine_steady steady e (h e)
theorem examine_onThisLine_goes {act : State → Option State} (k)
    (h : ∀ u : State, s.view.Steady u.view → StaysSteady s.view (act u)) :
    GoesBy c s (.next (s.examine k fun _ t => t.onThisLine act)) :=
  examine_goes k fun _ _ steady => onThisLine_steady steady h
theorem index_goes (k i) :
    GoesBy c s (.next (if s.endsForIndex k then s.keyStays.prepareIndex.conclude s
      else s.examineIndex k i)) := by
  split
  · exact goesBy_conclude (by simp)
  · refine examine_goes k fun e u steady => ?_
    repeat' split
    case h_3.isTrue.isTrue => exact indexOn_steady steady i
    case h_2 => exact indexOn_steady steady i
    all_goals simp [steady]

/-! ## Every command -/

theorem exec_goes (c : Instr) (s : State) : GoesBy c s (exec c s) := by
  cases c with
  | powerUp => exact execPowerUp_goes
  | resetPinRelease => exact execResetPinRelease_goes
  | transmitComplete => exact execTransmitComplete_goes
  | setMargins n a => exact offerRequest_goes n _ a (doSetMargins_steady a).gateAdjust
  | setTab n a => exact offerRequest_goes n _ a (doSetTab_steady a).gateAdjust
  | clearTab n a => exact offerRequest_goes n _ a (doClearTab_steady a).gateAdjust
  | clearTabs n a => exact offerRequest_goes n _ a (doClearTabs_steady a).gateAdjust
  | setPitch n a => exact offerRequest_goes n _ a (doSetPitch_steady a).gateAdjust
  | setSpacing n a => exact offerRequest_goes n _ a (doSetSpacing_steady a).gateAdjust
  | setImpression n a => exact offerRequest_goes n _ a (doSetImpression_steady a).gateAdjust
  | setTypingMode n a => exact offerRequest_goes n _ a (doSetTypingMode_steady a).gateAdjust
  | setSpellMode n a => exact offerRequest_goes n _ a (doSetSpellMode_steady a).gateAdjust
  | setToneVolume n a => exact offerRequest_goes n _ a (doSetToneVolume_steady a).gateAdjust
  | addWordRequest n a => exact offerRequest_goes n _ a (doAddWord_steady a).gateAdjust
  | removeWord n a => exact offerRequest_goes n _ a (doRemoveWord_steady a).gateAdjust
  | enableNotices n a => exact offerRequest_goes n _ a (doMask_steady _ a).gateAdjust
  | disableNotices n a => exact offerRequest_goes n _ a (doMask_steady _ a).gateAdjust
  | readPage n a => exact offerRequest_goes n _ a (doReadPage_steady a)
  | writeTestPattern n a => exact offerRequest_goes n _ a (doWriteTestPattern_steady a).gateAdjust
  | clearErrorLog n a => exact execClearErrorLog_goes n a
  | readLine n a => exact offerRequest_goes n _ a (doReadLine_steady a).gateAdjust
  | pauseRequest n a => exact offerRequest_goes n _ a (doPause_steady _ a).gateBoth
  | continueRequest n a => exact offerRequest_goes n _ a (doPause_steady _ a).gateBoth
  | resume n a => exact offerRequest_goes n _ a (doResume_steady a).gateBoth
  | restart n a => exact offerRequest_goes n _ a (doRestart_steady a)
  | soundTone n a => exact offerRequest_goes n _ a (doSoundTone_steady a)
  | enterAdjust n a => exact offerRequest_goes n _ a (doEnterAdjust_steady a).gateBoth
  | adjustStep n a => exact offerRequest_goes n _ a (doAdjustStep_steady a).gateService
  | testStrike n a => exact offerRequest_goes n _ a (doTestStrike_steady a).gateService
  | leaveAdjust n a => exact offerRequest_goes n _ a (doLeaveAdjust_steady a).gateService
  | unknownRequestCode n c a => exact execUnknownRequestCode_goes n c a
  | graphicCode => exact examine_onNewLine_goes _ fun e _ h => graphicOn_steady h e
  | space => exact examine_onNewLine_goes _ fun e _ h => spaceOn_steady h e
  | tab => exact examine_onNewLine_goes _ fun e _ h => tabOn_steady h e
  | decimalTab => exact examine_onNewLine_goes _ fun e _ h => decimalOn_steady h e
  | returnKey => exact examine_onNewLine_goes _ fun _ _ h => returnOn_steady h
  | index => exact index_goes .index 1
  | reverseIndex => exact index_goes .reverseIndex (-1)
  | halfUp => exact examine_onNewLine_goes _ fun _ _ h => halfLine_steady h (-4)
  | halfDown => exact examine_onNewLine_goes _ fun _ _ h => halfLine_steady h 4
  | backspace => exact examine_onThisLine_goes _ fun _ h => backspaceOn_steady h
  | forward => exact examine_onThisLine_goes _ fun _ h => forwardOn_steady h
  | relocate => exact examine_onThisLine_goes _ fun _ h => relocateOn_steady h
  | correct => exact examine_goes _ fun _ _ h => correctOn_steady h
  | wordErase => exact examine_goes _ fun _ _ h => eraseOn_steady h .word
  | lineErase => exact examine_goes _ fun _ _ h => eraseOn_steady h .line
  | acceptWord => exact examine_goes _ fun _ _ h => by split <;> simp [h]
  | addWord =>
    exact examine_goes _ fun _ _ h => by
      split
      · simp [h]
      · exact staysSteady_some.mpr (addTarget_steady h _)
  | center => exact examine_onNewLine_goes _ fun _ _ h => setFormat_steady h .center
  | flushRight => exact examine_onNewLine_goes _ fun _ _ h => setFormat_steady h .flushRight
  | marginRelease => exact examine_onNewLine_goes _ fun _ _ h => toggleRelease_steady h
  | setLeft | setRight =>
    exact examine_onNewLine_goes _ fun _ _ h => setOrClick_steady h fun _ =>
      writeSettings_steady_of_tabs h fun _ => rfl
  | tabSet =>
    refine examine_onNewLine_goes _ fun _ _ h => setOrClick_steady h fun allowed => ?_
    simp only [stopAllowed, Bool.and_eq_true, decide_eq_true_eq, Bool.not_eq_true',
      List.contains_eq_mem, decide_eq_false_iff_not] at allowed
    obtain ⟨⟨room, fresh⟩, _⟩ := allowed
    exact writeStop_steady h fresh room
  | tabClear =>
    exact examine_onNewLine_goes _ fun _ _ h => setOrClick_steady h fun _ => filterStops_steady h _
  | bold | underline | printHold => exact examine_goes _ fun _ _ h => staysSteady_some.mpr h
  | unknownKeyCode => exact examine_goes _ fun _ _ h => by simp [h]
  | mainPowerFail => exact goesBy_quiet (.refl _) rfl
  | resetPinAssert => exact goesBy_quiet (.refl _) rfl
  | keyFrame b f =>
    simp only [exec, execKeyFrame]
    split
    · exact goesBy_finish (by simp)
    · exact goesBy_unchanged
  | textFrame bs =>
    simp only [exec, execTextFrame]
    split
    · exact goesBy_finish (by simp)
    · exact goesBy_unchanged
  | frameError rx =>
    simp only [exec, execFrameError]
    repeat' split
    · exact goesBy_finish (frameFails_steady _ _)
    all_goals exact goesBy_unchanged
  | frameGapTimeout rx =>
    simp only [exec, execFrameGapTimeout]
    repeat' split
    · exact goesBy_finish (frameFails_steady _ _)
    all_goals exact goesBy_unchanged
  | resyncByteReceived => exact goesBy_unchanged
  | backupSupplyLost =>
    exact goesBy_quiet (retained_steady (.refl _) rfl rfl rfl fun k => by cases k <;> rfl) rfl
  | releaseRunStep =>
    simp only [exec, execReleaseRunStep]
    split
    · exact goesBy_finish (by simp)
    · exact goesBy_unchanged
  | eraseStep =>
    simp only [exec, execEraseStep]
    split
    · exact goesBy_conclude (by exact .refl _)
    · exact goesBy_unchanged
  | carrierMoveComplete n =>
    simp only [exec, execCarrierMoveComplete]
    repeat' split
    · exact goesBy_unchanged
    · exact goesBy_conclude (moveEnded_steady (by exact .refl _))
    · exact goesBy_conclude (by rw [takeFault_view]; exact .refl _)
    · exact goesBy_conclude (by rw [carrierHomed_view]; exact .refl _)
    · exact goesBy_conclude (by rw [carrierHomeFailed_view]; exact .refl _)
    · exact goesBy_unchanged
  | wheelRotationComplete =>
    simp only [exec, execWheelRotationComplete]
    repeat' split
    · exact goesBy_unchanged
    · exact goesBy_unchanged
    · exact goesBy_conclude (motionEnded_steady (by exact .refl _))
  | platenMotionComplete =>
    simp only [exec, execPlatenMotionComplete]
    repeat' split
    · exact goesBy_unchanged
    · exact goesBy_unchanged
    · exact goesBy_conclude (afterPlatenMove_steady (by exact .refl _))
  | fire =>
    simp only [exec, execFire]
    split
    · exact goesBy_finish (by simp)
    · exact goesBy_unchanged
  | pulseEnd =>
    simp only [exec, execPulseEnd]
    repeat' split
    · exact goesBy_finish (.refl _)
    · exact goesBy_finish (.refl _)
    · exact goesBy_unchanged
  | settleEnd =>
    simp only [exec, execSettleEnd]
    repeat' split
    · exact goesBy_conclude (by simp)
    · exact goesBy_conclude (by simp)
    · exact goesBy_unchanged
    · exact goesBy_unchanged
  | advanceEnd =>
    simp only [exec, execAdvanceEnd]
    split
    · exact goesBy_conclude (by simp)
    · exact goesBy_unchanged
  | decayEvent =>
    simp only [exec, execDecayEvent]
    split
    · refine goesBy_finish (tryFire_steady ⟨⟨rfl, fun full => ?_, id, id⟩, fun _ k c => ⟨k, c⟩⟩)
      exact (Nat.sub_le _ 1).trans full
    · exact goesBy_unchanged
  | homingOffSwitchEnd =>
    simp only [exec, execHomingOffSwitchEnd]
    split
    · exact goesBy_quiet (.refl _) rfl
    · exact goesBy_unchanged
  | carrierHomeFound =>
    simp only [exec, execCarrierHomeFound]
    split
    · exact goesBy_quiet (.refl _) rfl
    · exact goesBy_unchanged
  | carrierHomeSearchLimit =>
    simp only [exec, execCarrierHomeSearchLimit]
    split
    · exact goesBy_conclude (by rw [carrierHomeFailed_view]; simp [State.view])
    · exact goesBy_unchanged
  | notchTrailingEdge n =>
    simp only [exec, execNotchTrailingEdge]
    repeat' split
    · exact goesBy_quiet (.refl _) rfl
    · exact goesBy_conclude (by rw [overrun_view]; exact .refl _)
    · exact goesBy_unchanged
  | notchClassified =>
    simp only [exec, execNotchClassified]
    repeat' split
    · exact goesBy_unchanged
    · exact goesBy_conclude (classified_steady (by exact .refl _) _)
    · exact goesBy_unchanged
  | searchRevolutionLimit =>
    simp only [exec, execSearchRevolutionLimit]
    repeat' split
    · exact goesBy_conclude (by simp)
    · exact goesBy_conclude (by simp)
    · exact goesBy_unchanged
    · exact goesBy_unchanged
  | rawLevelChange k b =>
    simp only [exec, execRawLevelChange]
    repeat' split
    · exact goesBy_unchanged
    · exact goesBy_quiet (.refl _) rfl
    · exact goesBy_quiet (.refl _) rfl
  | qualificationTimerExpiry k d =>
    simp only [exec, execQualificationTimerExpiry]
    repeat' split
    · exact goesBy_conclude (by exact .refl _)
    · exact goesBy_conclude (qualifiedChange_steady (by exact .refl _) _ _)
    · exact goesBy_unchanged
  | sensingSample x =>
    simp only [exec, execSensingSample]
    repeat' split
    · exact goesBy_unchanged
    · exact goesBy_conclude (by simp)
    · exact goesBy_quiet (.refl _) rfl
    · exact goesBy_unchanged
  | dictReadComplete bs =>
    simp only [exec, execDictReadComplete]
    split
    · exact goesBy_conclude (by simp)
    · exact goesBy_unchanged
  | blinkToggle =>
    simp only [exec, execBlinkToggle]
    split
    · exact goesBy_next.mpr (.renders (.refl _))
    · exact goesBy_unchanged
  | messageExpiry =>
    simp only [exec, execMessageExpiry]
    split
    · exact goesBy_next.mpr (.renders (.refl _))
    · exact goesBy_unchanged
  | displaySendComplete =>
    simp only [exec, execDisplaySendComplete]
    split
    · refine goesBy_quiet ⟨⟨?_, id, id, id⟩, fun _ k c => ⟨k, c⟩⟩ rfl
      simp only [State.view, Display.sent]
      split <;> rfl
    · exact goesBy_unchanged
  | toneComplete =>
    simp only [exec, execToneComplete]
    repeat' split
    · exact goesBy_unchanged
    · exact goesBy_quiet (.refl _) rfl
    all_goals exact goesBy_unchanged
  | resyncIdleExpiry =>
    simp only [exec, execResyncIdleExpiry]
    split
    · exact goesBy_quiet (.refl _) rfl
    · exact goesBy_unchanged
  | encoderMarkPassed =>
    simp only [exec, execEncoderMarkPassed]
    split
    · exact goesBy_quiet (.refl _) rfl
    · exact goesBy_unchanged

/-! ## Starts -/

/-- The state after a start's render is fresh (R187). -/
theorem fresh_render_started (kind : StartKind) (s : State) :
    (s.started kind).render.Fresh kind where
  link := rfl
  keys := rfl
  line := rfl
  attributes := ⟨rfl, rfl, rfl⟩
  text := ⟨rfl, rfl, rfl, rfl⟩
  settings := rfl
  strikes := rfl
  mech := ⟨rfl, rfl, rfl⟩
  flags := ⟨rfl, rfl, rfl, rfl⟩
  reckoning := ⟨rfl, rfl⟩
  startup := rfl
  carrier := ⟨rfl, rfl, rfl⟩
  homing := by
    change CarrierMove.homing (homingFirst _) = _
    unfold homingFirst
    rfl
  wheel := rfl
  platen := rfl
  hammer := rfl
  ribbon := rfl
  inputs := fun k => by cases k <;> exact ⟨rfl, rfl⟩
  spell := rfl
  display := ⟨rfl, rfl, rfl, rfl, rfl⟩
  frame := ⟨rfl, rfl, rfl⟩
  tone := rfl
  rows := fun k => by cases k <;> exact ⟨rfl, rfl, rfl⟩
  last := rfl

theorem fresh_warmStart (s : State) : s.warmStart.Fresh .warm := fresh_render_started .warm s
theorem fresh_coldStart (s : State) : s.coldStart.Fresh .cold := fresh_render_started .cold _

/-! ## The invariants -/

@[simp] theorem submit_origin (d : Display) (f) : (d.submit f).origin = d.origin := by
  unfold Display.submit
  split <;> rfl
@[simp] theorem render_origin (s : State) :
    s.render.display.origin = windowOrigin s.display.origin s.line.cursor := by
  simp [State.render]
@[simp] theorem render_line (s : State) : s.render.line = s.line := rfl

/-- A render brings the window to the cursor (R160). -/
theorem render_windowSound (s : State) : s.render.WindowSound := by
  unfold State.WindowSound
  rw [render_origin, render_line]
  unfold windowOrigin
  repeat' split
  all_goals omega

theorem transmit_display : s.transmit.display = s.display := by
  unfold State.transmit State.chooseFrame
  repeat' split
  all_goals rfl

/-- An event that leaves the line as it was keeps the window, and any other ends in a render (R160,
R167). -/
theorem finish_windowSound {u : State} (h : s.WindowSound) (origin : u.display.origin = s.display.origin) :
    (u.finish s).WindowSound := by
  have line : (u.finish s).line = u.line := by
    obtain ⟨_, _, _, line, _⟩ := finish_same u s
    exact line
  have sound : (u.renderIf s).display.origin ≤ u.line.cursor ∧
      u.line.cursor ≤ (u.renderIf s).display.origin + 35 := by
    unfold State.renderIf
    split
    · split
      · exact render_windowSound u.steadyBlink
      · exact render_windowSound u
    · next unchanged =>
      have same : u.line = s.line := by
        by_contra other
        exact unchanged (by simp [State.displayChanged, bne_iff_ne.mpr fun k => other (Eq.symm k)])
      rw [origin, same]
      exact h
  unfold State.WindowSound
  rw [line, State.finish, transmit_display]
  exact sound

theorem step_goes (next : step s = .next t) :
    (s = t) ∨ ∃ c rest, s.pending = c :: rest ∧ State.Goes c { s with pending := rest } t := by
  cases pending : s.pending with
  | nil => exact .inl (by simpa [pending] using next)
  | cons c rest =>
    rw [step_cons c rest pending] at next
    exact .inr ⟨c, rest, rfl, exec_goes c _ t next⟩

/-- The bounds of the heat account and the Strike Queue outlive every command (R71, R117). -/
theorem State.Goes.bounded (h : s.Goes c t) :
    (s.HeatBounded → t.HeatBounded) ∧ (s.StrikesBounded → t.StrikesBounded) := by
  induction h with
  | event steady =>
    obtain ⟨_, _, _, _, _, _, strikes, _, _, _, _, hammer, _⟩ := finish_same _ s
    unfold State.HeatBounded State.StrikesBounded
    rw [strikes, hammer]
    exact ⟨steady.heat, steady.strikes⟩
  | clears n a command calm =>
    obtain ⟨_, _, _, _, _, _, strikes, _, _, _, _, hammer, _⟩ := finish_same _ s
    unfold State.HeatBounded State.StrikesBounded
    rw [strikes, hammer]
    exact ⟨calm.heat, calm.strikes⟩
  | renders steady => exact ⟨steady.heat, steady.strikes⟩
  | quiet steady => exact ⟨steady.heat, steady.strikes⟩
  | warm | cold => exact ⟨fun _ => le_rfl, fun _ => Nat.zero_le _⟩
  | rests _ _ _ ih => exact ih

theorem Retained.default_sound (q : Settings) (h : q = Settings.default) :
    q = Retained.default.settings ∧ q.tabs.length ≤ Config.tabPlaces ∧ q.tabs.Pairwise (· < ·) ∧
      Retained.default.words.length ≤ Config.wordPlaces ∧
      ∀ k : Trim, -k.limit ≤ Retained.default.trim k ∧ Retained.default.trim k ≤ k.limit := by
  subst h
  exact ⟨rfl, by decide, List.Pairwise.nil, by decide, fun k => by cases k <;> decide⟩

/-- The laws of the Retained Area outlive every command (R44, R157, R186, R191). -/
theorem State.Goes.retainedSound (h : s.Goes c t) (sound : s.RetainedSound) : t.RetainedSound := by
  induction h with
  | event steady =>
    obtain ⟨_, _, _, _, _, settings, _, _, _, _, _, _, _, _, _, _, retained⟩ := finish_same _ s
    unfold State.RetainedSound
    rw [settings, retained]
    exact steady.retained sound
  | clears n a command calm =>
    obtain ⟨_, _, _, _, _, settings, _, _, _, _, _, _, _, _, _, _, retained⟩ := finish_same _ s
    unfold State.RetainedSound
    rw [settings, retained]
    exact calm.retained sound
  | renders steady => exact steady.retained sound
  | quiet steady => exact steady.retained sound
  | warm kept =>
    obtain ⟨inUse, laws⟩ := sound
    rw [inUse] at laws
    rw [← kept] at laws
    exact ⟨rfl, laws⟩
  | cold => exact Retained.default_sound _ rfl
  | rests _ _ _ ih => exact ih

/-- The window law outlives every command (R160). -/
theorem State.Goes.windowSound (h : s.Goes c t) (sound : s.WindowSound) : t.WindowSound := by
  induction h with
  | event steady => exact finish_windowSound sound steady.origin
  | clears n a command calm => exact finish_windowSound sound calm.origin
  | renders => exact render_windowSound _
  | @quiet u steady cursor =>
    have origin : u.display.origin = s.display.origin := steady.origin
    unfold State.WindowSound
    rw [cursor, origin]
    exact sound
  | warm | cold => exact render_windowSound _
  | rests _ _ _ ih => exact ih

/-- Settles O54: what a command can do to the view keeps both bounds. -/
theorem heatAndStrikeQueueStayBounded : Obligations.HeatAndStrikeQueueStayBounded := by
  constructor <;> intro s t bounded next
  all_goals obtain rfl | ⟨c, rest, _, goes⟩ := step_goes next
  · exact bounded
  · exact goes.bounded.1 bounded
  · exact bounded
  · exact goes.bounded.2 bounded

/-- Settles O57: an event either leaves the line and the window or ends in a render. -/
theorem windowAlwaysShowsCursor : Obligations.WindowAlwaysShowsCursor := by
  intro s t sound next
  obtain rfl | ⟨c, rest, _, goes⟩ := step_goes next
  · exact sound
  · exact goes.windowSound sound

/-- Settles O59: no command takes the settings, the words or the trims out of their laws. -/
theorem retainedAreaStaysSound : Obligations.RetainedAreaStaysSound := by
  intro s t sound next
  obtain rfl | ⟨c, rest, _, goes⟩ := step_goes next
  · exact sound
  · exact goes.retainedSound sound

theorem finish_log (u o : State) : (u.finish o).link.errorLog = u.link.errorLog ∧
    (u.finish o).link.errorCount = u.link.errorCount := by
  obtain ⟨d, tr, sa, ba, n, h⟩ := finish_eq u o
  rw [h]
  exact ⟨rfl, rfl⟩

/-- Settles O58: every command but CLEAR_ERROR_LOG and a start keeps a logged record. -/
theorem errorLogKeepsFirstFrame : Obligations.ErrorLogKeepsFirstFrame := by
  intro s t r logged least most next
  obtain rfl | ⟨c, rest, pending, goes⟩ := step_goes next
  · exact .inl ⟨logged, least, most⟩
  · cases goes with
    | event steady =>
      obtain ⟨log, count⟩ := finish_log _ _
      rw [log, count]
      exact .inl (steady.log r logged ⟨least, most⟩)
    | renders steady => exact .inl (steady.log r logged ⟨least, most⟩)
    | quiet steady => exact .inl (steady.log r logged ⟨least, most⟩)
    | clears n a command calm empty =>
      obtain ⟨log, count⟩ := finish_log _ _
      rw [log, count]
      exact .inr (.inl ⟨⟨n, a, by rw [pending, command]; rfl⟩, empty⟩)
    | warm => exact .inr (.inr (.inl (.inr (fresh_warmStart _))))
    | cold => exact .inr (.inr (.inl (.inl (fresh_coldStart _))))
    | rests low start empty => exact .inr (.inr (.inr ⟨low, empty⟩))

end Sys2Proof.Machine
end

section
/-! Proofs about steps, starts and rest (R186 to R188). -/

namespace Sys2Proof.Machine

variable {s : State}

/-- Settles O1: both sides unfold to the same command. -/
theorem frontCommandRuns : Obligations.FrontCommandRuns :=
  ⟨fun _ _ _ => rfl, fun _ idle => step_nil idle⟩

theorem reset_frame : State.reset.display.current = State.reset.frame := by decide

theorem fresh_reset : State.reset.Fresh .cold where
  link := rfl
  keys := rfl
  line := rfl
  attributes := ⟨rfl, rfl, rfl⟩
  text := ⟨rfl, rfl, rfl, rfl⟩
  settings := rfl
  strikes := rfl
  mech := ⟨rfl, rfl, rfl⟩
  flags := ⟨rfl, rfl, rfl, rfl⟩
  reckoning := ⟨rfl, rfl⟩
  startup := rfl
  carrier := ⟨rfl, rfl, rfl⟩
  homing := rfl
  wheel := rfl
  platen := rfl
  hammer := rfl
  ribbon := rfl
  inputs := fun k => by cases k <;> exact ⟨rfl, rfl⟩
  spell := rfl
  display := ⟨rfl, rfl, rfl, rfl, rfl⟩
  frame := ⟨reset_frame, rfl, rfl⟩
  tone := rfl
  rows := fun k => by cases k <;> exact ⟨rfl, rfl, rfl⟩
  last := rfl

/-- Settles O2: the reset tables, field by field. -/
theorem resetIsColdStart : Obligations.ResetIsColdStart := ⟨fresh_reset, rfl, rfl, rfl⟩

theorem reset_lineSound : State.reset.LineSound where
  chain := trivial
  onPaper := ⟨by decide, fun _ member => nomatch member⟩
  escapements := fun _ member => nomatch member
  tail := .nil
  entriesRefer := fun _ member => nomatch member
  cellsReferred := fun _ member => nomatch member
  spaces := fun _ _ member => nomatch member
  identities := ⟨.nil, fun _ member => (nomatch member), .nil, fun _ member => nomatch member⟩
  groups := fun _ _ here => nomatch here
  returnEntry := fun _ named => nomatch named
  glyphs := fun _ member => nomatch member
  margins := by decide
  startup := fun _ => ⟨rfl, rfl⟩

theorem reset_retainedSound : State.reset.RetainedSound := Retained.default_sound _ rfl

/-- Settles O60: every invariant, on the one state. -/
theorem resetMeetsInvariants : Obligations.ResetMeetsInvariants :=
  ⟨le_rfl, Nat.zero_le _, Nat.zero_le _,
    ⟨fun full => absurd full (by decide), fun _ => rfl⟩, le_rfl,
    ⟨Nat.zero_le _, Nat.zero_le _⟩, reset_lineSound, ⟨le_rfl, Nat.zero_le _⟩,
    fun logged => (nomatch logged), rfl, reset_retainedSound⟩

/-! ## Starts (R187) -/

/-- The raw levels are the outside's: a start reads them and leaves them. -/
theorem started_raw (kind : StartKind) (s : State) (k : Input) :
    ((s.started kind).inputs.get k).raw = (s.inputs.get k).raw := by
  cases k <;> rfl

/-- Settles O3: the marker chooses the kind of start. -/
theorem powerUpStarts : Obligations.PowerUpStarts := by
  intro s off
  have resetHigh : s.power.resetLow = false := by rw [off]
  have mainDown : s.power.mainUp = false := by rw [off]
  have up (u : State) (same : u.power = ⟨true, s.power.resetLow⟩) :
      u.power = ⟨true, false⟩ := by rw [same, resetHigh]
  cases marker : s.retained.marker with
  | true =>
    refine ⟨State.warmStart { s with power := { s.power with mainUp := true } }, ?_, up _ rfl, rfl,
      ?_, fun k => started_raw .warm s k⟩
    · simp [exec, execPowerUp, mainDown, marker, State.warmStart, State.render, State.started,
        resetHigh]
    · rw [if_pos rfl]
      exact ⟨fresh_warmStart _, rfl⟩
  | false =>
    refine ⟨State.coldStart { s with power := { s.power with mainUp := true } }, ?_, up _ rfl, rfl,
      ?_, fun k => started_raw .cold s.loadDefaults k⟩
    · simp [exec, execPowerUp, mainDown, marker, State.coldStart, State.loadDefaults, State.render,
        State.started, resetHigh]
    · exact ⟨fresh_coldStart _, rfl⟩

/-- Settles O4: both commands come to `State.warmStart`. -/
theorem resetPinAndRestartStartWarm : Obligations.ResetPinAndRestartStartWarm := by
  constructor
  · intro s low
    have up : s.power.mainUp = true := by rw [low]
    refine ⟨State.warmStart { s with power := { s.power with resetLow := false } }, ?_, ?_,
      fresh_warmStart _, rfl, rfl⟩
    · simp [exec, execResetPinRelease, low]
    · change (⟨s.power.mainUp, false⟩ : Power) = _
      rw [up]
  · intro s n f live sending restarts
    refine ⟨s.warmStart, ?_, fresh_warmStart _, rfl, rfl⟩
    simp [exec, execTransmitComplete, live, sending, restarts]

/-! ## Rest (R186, R187) -/

/-- Settles O5: either command comes to `State.atRest`. -/
theorem powerAndResetHoldAtRest : Obligations.PowerAndResetHoldAtRest := by
  refine ⟨fun s c command => ?_, fun s => rfl⟩
  obtain rfl | rfl := command
  · exact ⟨_, rfl, rfl, rfl, rfl, rfl, rfl, rfl, rfl, rfl, rfl, rfl, rfl, rfl, rfl, rfl, rfl⟩
  · exact ⟨_, rfl, Bool.and_false _, rfl, rfl, rfl, rfl, rfl, rfl, rfl, rfl, rfl, rfl, rfl, rfl, rfl,
      rfl⟩

end Sys2Proof.Machine
end

section
/-! Rules about requests: what the end of their event leaves, how an answer is formed, and the gates of
the mechanism state (R178, R179, R181). -/

namespace Sys2Proof.Machine

variable {s u o : State} {p : List Byte}

/-! ## What the end of an event leaves -/

@[simp] theorem finish_pending (u o : State) : (u.finish o).pending = u.pending :=
  (finish_same u o).1
@[simp] theorem finish_power (u o : State) : (u.finish o).power = u.power := (finish_same u o).2.1
@[simp] theorem finish_keys (u o : State) : (u.finish o).keys = u.keys := by
  obtain ⟨d, tr, sa, ba, n, h⟩ := finish_eq u o; rw [h]
@[simp] theorem finish_line (u o : State) : (u.finish o).line = u.line := by
  obtain ⟨d, tr, sa, ba, n, h⟩ := finish_eq u o; rw [h]
@[simp] theorem finish_text (u o : State) : (u.finish o).text = u.text := by
  obtain ⟨d, tr, sa, ba, n, h⟩ := finish_eq u o; rw [h]
@[simp] theorem finish_settings (u o : State) : (u.finish o).settings = u.settings := by
  obtain ⟨d, tr, sa, ba, n, h⟩ := finish_eq u o; rw [h]
@[simp] theorem finish_strikes (u o : State) : (u.finish o).strikes = u.strikes := by
  obtain ⟨d, tr, sa, ba, n, h⟩ := finish_eq u o; rw [h]
@[simp] theorem finish_seq (u o : State) : (u.finish o).seq = u.seq := by
  obtain ⟨d, tr, sa, ba, n, h⟩ := finish_eq u o; rw [h]
@[simp] theorem finish_carrier (u o : State) : (u.finish o).carrier = u.carrier := by
  obtain ⟨d, tr, sa, ba, n, h⟩ := finish_eq u o; rw [h]
@[simp] theorem finish_wheel (u o : State) : (u.finish o).wheel = u.wheel := by
  obtain ⟨d, tr, sa, ba, n, h⟩ := finish_eq u o; rw [h]
@[simp] theorem finish_platen (u o : State) : (u.finish o).platen = u.platen := by
  obtain ⟨d, tr, sa, ba, n, h⟩ := finish_eq u o; rw [h]
@[simp] theorem finish_hammer (u o : State) : (u.finish o).hammer = u.hammer := by
  obtain ⟨d, tr, sa, ba, n, h⟩ := finish_eq u o; rw [h]
@[simp] theorem finish_ribbon (u o : State) : (u.finish o).ribbon = u.ribbon := by
  obtain ⟨d, tr, sa, ba, n, h⟩ := finish_eq u o; rw [h]
@[simp] theorem finish_inputs (u o : State) : (u.finish o).inputs = u.inputs := by
  obtain ⟨d, tr, sa, ba, n, h⟩ := finish_eq u o; rw [h]
@[simp] theorem finish_spell (u o : State) : (u.finish o).spell = u.spell := by
  obtain ⟨d, tr, sa, ba, n, h⟩ := finish_eq u o; rw [h]
@[simp] theorem finish_tone (u o : State) : (u.finish o).tone = u.tone := by
  obtain ⟨d, tr, sa, ba, n, h⟩ := finish_eq u o; rw [h]
@[simp] theorem finish_retained (u o : State) : (u.finish o).retained = u.retained := by
  obtain ⟨d, tr, sa, ba, n, h⟩ := finish_eq u o; rw [h]

/-- The parts of the link that the end of an event leaves. -/
theorem finish_link (u o : State) : ∃ tr sa ba,
    (u.finish o).link = { u.link with transmitter := tr, slotAnswer := sa, busyAnswer := ba } := by
  obtain ⟨d, tr, sa, ba, n, h⟩ := finish_eq u o
  exact ⟨tr, sa, ba, by rw [h]⟩
@[simp] theorem finish_receiver (u o : State) : (u.finish o).link.receiver = u.link.receiver := by
  obtain ⟨_, _, _, h⟩ := finish_link u o; rw [h]
@[simp] theorem finish_errorLog (u o : State) : (u.finish o).link.errorLog = u.link.errorLog := by
  obtain ⟨_, _, _, h⟩ := finish_link u o; rw [h]
@[simp] theorem finish_errorCount (u o : State) :
    (u.finish o).link.errorCount = u.link.errorCount := by
  obtain ⟨_, _, _, h⟩ := finish_link u o; rw [h]
@[simp] theorem finish_slot (u o : State) : (u.finish o).link.slot = u.link.slot := by
  obtain ⟨_, _, _, h⟩ := finish_link u o; rw [h]
@[simp] theorem finish_busyLine (u o : State) : (u.finish o).link.busyLine = u.link.busyLine := by
  obtain ⟨_, _, _, h⟩ := finish_link u o; rw [h]
@[simp] theorem finish_alertLow (u o : State) : (u.finish o).link.alertLow = u.link.alertLow := by
  obtain ⟨_, _, _, h⟩ := finish_link u o; rw [h]

/-- A render, made or not, writes the display alone. -/
theorem renderIf_eq (u o : State) : ∃ d, u.renderIf o = { u with display := d } := by
  unfold State.renderIf
  repeat' split
  all_goals exact ⟨_, rfl⟩

/-- A transmitter that is sending makes no choice at the end of an event (R179). -/
theorem finish_of_sending {w f} (sending : u.link.transmitter = .sending w f) :
    u.finish o = u.renderIf o := by
  obtain ⟨d, rendered⟩ := renderIf_eq u o
  simp [State.finish, State.transmit, rendered, sending]

theorem finish_link_of_sending {w f} (sending : u.link.transmitter = .sending w f) :
    (u.finish o).link = u.link ∧ (u.finish o).notices = u.notices := by
  obtain ⟨d, rendered⟩ := renderIf_eq u o
  rw [finish_of_sending sending, rendered]
  exact ⟨rfl, rfl⟩

/-- A sameness with the state an event began in is decided before its end. -/
@[simp] theorem sameMechanism_finish : s.sameMechanism (u.finish o) ↔ s.sameMechanism u := by
  simp [State.sameMechanism]
@[simp] theorem sameWork_finish : s.sameWork (u.finish o) ↔ s.sameWork u := by
  simp [State.sameWork]
@[simp] theorem sameSettings_finish : s.sameSettings (u.finish o) ↔ s.sameSettings u := by
  simp [State.sameSettings]

/-! ## What forming an answer leaves -/

@[simp] theorem answering_pending (u o : State) (p) : (u.answering o p).pending = u.pending :=
  finish_pending _ _
@[simp] theorem answering_power (u o : State) (p) : (u.answering o p).power = u.power :=
  finish_power _ _
@[simp] theorem answering_keys (u o : State) (p) : (u.answering o p).keys = u.keys := finish_keys _ _
@[simp] theorem answering_line (u o : State) (p) : (u.answering o p).line = u.line := finish_line _ _
@[simp] theorem answering_text (u o : State) (p) : (u.answering o p).text = u.text := finish_text _ _
@[simp] theorem answering_settings (u o : State) (p) : (u.answering o p).settings = u.settings :=
  finish_settings _ _
@[simp] theorem answering_strikes (u o : State) (p) : (u.answering o p).strikes = u.strikes :=
  finish_strikes _ _
@[simp] theorem answering_seq (u o : State) (p) : (u.answering o p).seq = u.seq := finish_seq _ _
@[simp] theorem answering_carrier (u o : State) (p) : (u.answering o p).carrier = u.carrier :=
  finish_carrier _ _
@[simp] theorem answering_wheel (u o : State) (p) : (u.answering o p).wheel = u.wheel :=
  finish_wheel _ _
@[simp] theorem answering_platen (u o : State) (p) : (u.answering o p).platen = u.platen :=
  finish_platen _ _
@[simp] theorem answering_hammer (u o : State) (p) : (u.answering o p).hammer = u.hammer :=
  finish_hammer _ _
@[simp] theorem answering_ribbon (u o : State) (p) : (u.answering o p).ribbon = u.ribbon :=
  finish_ribbon _ _
@[simp] theorem answering_inputs (u o : State) (p) : (u.answering o p).inputs = u.inputs :=
  finish_inputs _ _
@[simp] theorem answering_spell (u o : State) (p) : (u.answering o p).spell = u.spell :=
  finish_spell _ _
@[simp] theorem answering_tone (u o : State) (p) : (u.answering o p).tone = u.tone := finish_tone _ _
@[simp] theorem answering_retained (u o : State) (p) : (u.answering o p).retained = u.retained :=
  finish_retained _ _
@[simp] theorem answering_slot (u o : State) (p) : (u.answering o p).link.slot = u.link.slot :=
  finish_slot _ _
@[simp] theorem answering_errorLog (u o : State) (p) :
    (u.answering o p).link.errorLog = u.link.errorLog := finish_errorLog _ _
@[simp] theorem answering_errorCount (u o : State) (p) :
    (u.answering o p).link.errorCount = u.link.errorCount := finish_errorCount _ _

@[simp] theorem sameMechanism_answering : s.sameMechanism (u.answering o p) ↔ s.sameMechanism u := by
  simp [State.sameMechanism]
@[simp] theorem sameWork_answering : s.sameWork (u.answering o p) ↔ s.sameWork u := by
  simp [State.sameWork]
@[simp] theorem sameSettings_answering : s.sameSettings (u.answering o p) ↔ s.sameSettings u := by
  simp [State.sameSettings]
@[simp] theorem setBy_answering {f} : s.setBy f (u.answering o p) ↔ s.setBy f u := by
  simp [State.setBy]

/-- An idle transmitter sends the slot answer at the end of the event (R179). -/
theorem finish_sends_answer (idle : u.link.transmitter = .idle) (waits : u.link.slotAnswer = some p) :
    (u.finish o).link.transmitter = .sending .answer (frameBytes 0x81 p) := by
  obtain ⟨d, rendered⟩ := renderIf_eq u o
  simp [State.finish, rendered, State.transmit, idle, State.chooseFrame, waits, State.sendFrame]

/-- An answer is formed: sent at once by an idle transmitter, else left in the slot (R178, R179). -/
theorem answered_answering (sent : u.link.transmitter = s.link.transmitter)
    (busy : u.link.slot.isSome = true) : s.answered (u.answering s p) p := by
  refine ⟨by rw [answering_slot]; exact busy, ?_⟩
  cases held : s.link.transmitter with
  | idle => exact finish_sends_answer (sent.trans held) rfl
  | sending w f =>
    obtain ⟨link, _⟩ := finish_link_of_sending (o := s)
      (u := { u with link := { u.link with slotAnswer := some p } }) (sent.trans held)
    exact ⟨(congrArg Link.transmitter link).trans (sent.trans held), congrArg Link.slotAnswer link⟩

/-! ## Requests that are taken -/

section Taken
variable {num code : Byte} {args : List Byte} {act : State → Acted} {c : Instr}

@[simp] theorem onRequest_sameWork (s : State) (num code args) : s.sameWork (s.onRequest num code args) :=
  ⟨rfl, rfl, rfl, rfl, rfl, rfl, rfl⟩
@[simp] theorem onRequest_sameMechanism (s : State) (num code args) :
    s.sameMechanism (s.onRequest num code args) := ⟨rfl, rfl, rfl, rfl, rfl, rfl, rfl⟩
@[simp] theorem onRequest_sameSettings (s : State) (num code args) :
    s.sameSettings (s.onRequest num code args) := ⟨rfl, rfl⟩
@[simp] theorem onRequest_pending (s : State) (num code args) :
    (s.onRequest num code args).pending = s.pending := rfl
@[simp] theorem onRequest_power (s : State) (num code args) :
    (s.onRequest num code args).power = s.power := rfl
@[simp] theorem onRequest_keys (s : State) (num code args) :
    (s.onRequest num code args).keys = s.keys := rfl
@[simp] theorem onRequest_line (s : State) (num code args) :
    (s.onRequest num code args).line = s.line := rfl
@[simp] theorem onRequest_text (s : State) (num code args) :
    (s.onRequest num code args).text = s.text := rfl
@[simp] theorem onRequest_settings (s : State) (num code args) :
    (s.onRequest num code args).settings = s.settings := rfl
@[simp] theorem onRequest_strikes (s : State) (num code args) :
    (s.onRequest num code args).strikes = s.strikes := rfl
@[simp] theorem onRequest_seq (s : State) (num code args) :
    (s.onRequest num code args).seq = s.seq := rfl
@[simp] theorem onRequest_carrier (s : State) (num code args) :
    (s.onRequest num code args).carrier = s.carrier := rfl
@[simp] theorem onRequest_wheel (s : State) (num code args) :
    (s.onRequest num code args).wheel = s.wheel := rfl
@[simp] theorem onRequest_platen (s : State) (num code args) :
    (s.onRequest num code args).platen = s.platen := rfl
@[simp] theorem onRequest_hammer (s : State) (num code args) :
    (s.onRequest num code args).hammer = s.hammer := rfl
@[simp] theorem onRequest_ribbon (s : State) (num code args) :
    (s.onRequest num code args).ribbon = s.ribbon := rfl
@[simp] theorem onRequest_inputs (s : State) (num code args) :
    (s.onRequest num code args).inputs = s.inputs := rfl
@[simp] theorem onRequest_spell (s : State) (num code args) :
    (s.onRequest num code args).spell = s.spell := rfl
@[simp] theorem onRequest_display (s : State) (num code args) :
    (s.onRequest num code args).display = s.display := rfl
@[simp] theorem onRequest_tone (s : State) (num code args) :
    (s.onRequest num code args).tone = s.tone := rfl
@[simp] theorem onRequest_notices (s : State) (num code args) :
    (s.onRequest num code args).notices = s.notices := rfl
@[simp] theorem onRequest_retained (s : State) (num code args) :
    (s.onRequest num code args).retained = s.retained := rfl

/-- A request that is taken ends in its answer, which is formed in the event (R178). -/
theorem request_answered {v : State} {r : Result} {data : List Byte} (taken : s.takesRequest args)
    (run : exec c s = .next (s.offerRequest num code args act))
    (acts : act (s.onRequest num code args) = ⟨v, r, data⟩)
    (sent : v.link.transmitter = s.link.transmitter) (busy : v.link.slot.isSome = true) :
    exec c s = .next (v.answering s (num :: byteOf r.number :: data)) ∧
      s.answered (v.answering s (num :: byteOf r.number :: data))
        (num :: byteOf r.number :: data) := by
  refine ⟨?_, answered_answering sent busy⟩
  rw [run, offerRequest_taken taken]
  change Host.Outcome.next ((act (s.onRequest num code args)).state.answering s _) = _
  change Host.Outcome.next ((act (s.onRequest num code args)).state.answering s
    (num :: byteOf (act (s.onRequest num code args)).result.number ::
      (act (s.onRequest num code args)).data)) = _
  rw [acts]

/-- A request whose act leaves the state is answered, and all stays as it was. -/
theorem request_unchanged {r : Result} {data : List Byte} (taken : s.takesRequest args)
    (run : exec c s = .next (s.offerRequest num code args act))
    (acts : act (s.onRequest num code args) = ⟨s.onRequest num code args, r, data⟩) :
    ∃ t, exec c s = .next t ∧ s.answered t (num :: byteOf r.number :: data) ∧ s.sameMechanism t ∧
      s.sameWork t ∧ s.sameSettings t ∧ t.tone = s.tone := by
  obtain ⟨ends, answered⟩ := request_answered taken run acts rfl rfl
  exact ⟨_, ends, answered, by simp, by simp, by simp, by rw [answering_tone]; rfl⟩

end Taken

/-! ## Gates (R181) -/

section Gates
variable {a : Acted}

theorem gateAdjust_of_ne (h : s.seq.mech ≠ .adjust) : s.gateAdjust a = a := if_neg h
theorem gateAdjust_adjust (h : s.seq.mech = .adjust) : s.gateAdjust a = s.answer .badState := if_pos h
theorem gateBoth_starting (h : s.seq.mech = .starting) : s.gateBoth a = s.answer .notReady := if_pos h
theorem gateBoth_adjust (h : s.seq.mech = .adjust) : s.gateBoth a = s.answer .badState := by
  simp [State.gateBoth, State.gateAdjust, h]
theorem gateBoth_of_ne (h : s.seq.mech ≠ .starting) (k : s.seq.mech ≠ .adjust) :
    s.gateBoth a = a := by simp [State.gateBoth, State.gateAdjust, h, k]
theorem gateService_starting (h : s.seq.mech = .starting) :
    s.gateService a = s.answer .notReady := if_pos h
theorem gateService_adjust (h : s.seq.mech = .adjust) : s.gateService a = a := by
  simp [State.gateService, h]
theorem gateService_of_ne (h : s.seq.mech ≠ .starting) (k : s.seq.mech ≠ .adjust) :
    s.gateService a = s.answer .badState := by simp [State.gateService, h, k]

/-- The gate of a request that acts outside ADJUST, as the request meets it. -/
theorem onRequest_gateAdjust {num code args} (h : s.seq.mech ≠ .adjust) :
    (s.onRequest num code args).gateAdjust a = a := if_neg h
theorem onRequest_gateBoth {num code args} (h : s.seq.mech ≠ .starting) (k : s.seq.mech ≠ .adjust) :
    (s.onRequest num code args).gateBoth a = a := (if_neg h).trans (if_neg k)
theorem onRequest_gateService {num code args} (h : s.seq.mech = .adjust) :
    (s.onRequest num code args).gateService a = a := gateService_adjust h

end Gates

end Sys2Proof.Machine
end

section
/-! Proofs about the requests that set or read a setting, a word, a mask or a page (R157, R171, R180 to
R182, R185). -/

namespace Sys2Proof.Machine

variable {s : State} {num code b : Byte} {args : List Byte} {act : State → Acted} {c : Instr}

/-! ## Requests that set -/

/-- A request that sets a setting is answered DONE, and all else stays. -/
theorem request_sets {f : Settings → Settings} (taken : s.takesRequest args)
    (run : exec c s = .next (s.offerRequest num code args act))
    (acts : act (s.onRequest num code args) = ((s.onRequest num code args).writeSettings f).answerDone) :
    ∃ t, exec c s = .next t ∧ s.setBy f t ∧ s.answered t [num, 0x00] ∧ s.sameWork t ∧
      s.sameMechanism t := by
  obtain ⟨ends, answered⟩ := request_answered taken run acts rfl rfl
  exact ⟨_, ends, setBy_answering.mpr ⟨rfl, rfl⟩, answered, sameWork_answering.mpr
    ⟨rfl, rfl, rfl, rfl, rfl, rfl, rfl⟩, sameMechanism_answering.mpr ⟨rfl, rfl, rfl, rfl, rfl, rfl, rfl⟩⟩

/-- A request that is refused is answered with its result, and all stays. -/
theorem request_refused {r : Result} (taken : s.takesRequest args)
    (run : exec c s = .next (s.offerRequest num code args act))
    (acts : act (s.onRequest num code args) = (s.onRequest num code args).answer r) :
    ∃ t, exec c s = .next t ∧ s.sameSettings t ∧ s.answered t [num, byteOf r.number] ∧
      s.sameWork t ∧ s.sameMechanism t ∧ t.tone = s.tone := by
  obtain ⟨t, ends, answered, mechanism, work, settings, tone⟩ := request_unchanged taken run acts
  exact ⟨t, ends, settings, answered, work, mechanism, tone⟩

/-! ## Layout requests (R180) -/

/-- Two bytes for each number. -/
theorem wides_length {ws : List Nat} (h : wides args = some ws) : args.length = 2 * ws.length := by
  fun_induction wides args generalizing ws with
  | case1 => simp at h; simp [← h]
  | case2 => simp at h
  | case3 hi lo rest ih =>
    obtain ⟨vs, found, rfl⟩ := Option.map_eq_some_iff.mp h
    simp [ih found]
    omega

theorem marginsOk_iff {l r : Nat} : marginsOk l r = true ↔ l < r ∧ r ≤ 1559 ∧ 120 ≤ r - l := by
  rw [marginsOk, Bool.and_eq_true, Bool.and_eq_true, decide_eq_true_eq, decide_eq_true_eq,
    decide_eq_true_eq, and_assoc, Config.lastPosition]

theorem doSetMargins_of {l r : Nat} (h : wides args = some [l, r]) : s.doSetMargins args =
    if l < r ∧ r ≤ 1559 ∧ 120 ≤ r - l
      then (s.writeSettings fun q => { q with left := l, right := r }).answerDone
      else s.answer .badValue := by
  simp [State.doSetMargins, h, ← marginsOk_iff]
theorem doSetMargins_length (h : args.length ≠ 4) : s.doSetMargins args = s.answer .badValue := by
  unfold State.doSetMargins
  split
  · next k => exact absurd (wides_length k) (by simpa using h)
  · rfl
theorem doSetTab_of {p : Nat} (h : wides args = some [p]) : s.doSetTab args =
    if 1559 < p then s.answer .badValue
    else if p ∈ s.settings.tabs then s.answer .already
    else if 16 ≤ s.settings.tabs.length then s.answer .listFull
    else (s.writeSettings fun q => { q with tabs := insertStop p q.tabs }).answerDone := by
  simp [State.doSetTab, h, Config.lastPosition, Config.tabPlaces]
  rfl
theorem doSetTab_length (h : args.length ≠ 2) : s.doSetTab args = s.answer .badValue := by
  unfold State.doSetTab
  split
  · next k => exact absurd (wides_length k) (by simpa using h)
  · rfl
theorem doClearTab_of {p : Nat} (h : wides args = some [p]) : s.doClearTab args =
    if 1559 < p then s.answer .badValue
    else if p ∈ s.settings.tabs then
      (s.writeSettings fun q => { q with tabs := q.tabs.filter (· ≠ p) }).answerDone
    else s.answer .notFound := by
  simp [State.doClearTab, h, Config.lastPosition]
theorem doClearTab_length (h : args.length ≠ 2) : s.doClearTab args = s.answer .badValue := by
  unfold State.doClearTab
  split
  · next k => exact absurd (wides_length k) (by simpa using h)
  · rfl
theorem doClearTabs_of {ps : List Nat} (h : wides args = some ps) : s.doClearTabs args =
    if ps.length ≤ 16 ∧ ps.Pairwise (· < ·) ∧ ∀ p ∈ ps, p ≤ 1559
      then (s.writeSettings fun q => { q with tabs := ps }).answerDone
      else s.answer .badValue := by
  simp only [State.doClearTabs, h, goodStops_iff, Bool.and_eq_true, decide_eq_true_eq]
  rfl
theorem doClearTabs_odd (h : args.length % 2 = 1) : s.doClearTabs args = s.answer .badValue := by
  unfold State.doClearTabs
  split
  · next ws k =>
    have := wides_length k
    omega
  · rfl

section Layout
variable (taken : s.takesRequest args) (mech : s.seq.mech ≠ .adjust)
include taken mech

/-- A request outside ADJUST that sets a setting. -/
theorem gated_sets {f : Settings → Settings}
    (run : exec c s = .next (s.offerRequest num code args fun s => s.gateAdjust (act s)))
    (acts : act (s.onRequest num code args) = ((s.onRequest num code args).writeSettings f).answerDone) :
    ∃ t, exec c s = .next t ∧ s.setBy f t ∧ s.answered t [num, 0x00] ∧ s.sameWork t ∧
      s.sameMechanism t :=
  request_sets taken run ((onRequest_gateAdjust mech).trans acts)

/-- A request outside ADJUST that is refused. -/
theorem gated_refused {r : Result}
    (run : exec c s = .next (s.offerRequest num code args fun s => s.gateAdjust (act s)))
    (acts : act (s.onRequest num code args) = (s.onRequest num code args).answer r) :
    ∃ t, exec c s = .next t ∧ s.sameSettings t ∧ s.answered t [num, byteOf r.number] ∧
      s.sameWork t ∧ s.sameMechanism t ∧ t.tone = s.tone :=
  request_refused taken run ((onRequest_gateAdjust mech).trans acts)

theorem layout_refused (r : Result)
    (run : exec c s = .next (s.offerRequest num code args fun s => s.gateAdjust (act s)))
    (acts : act (s.onRequest num code args) = (s.onRequest num code args).answer r) :
    ∃ t, exec c s = .next t ∧ s.sameSettings t ∧ s.answered t [num, byteOf r.number] ∧
      s.sameWork t ∧ s.sameMechanism t := by
  obtain ⟨t, ends, settings, answered, work, mechanism, _⟩ := gated_refused taken mech run acts
  exact ⟨t, ends, settings, answered, work, mechanism⟩

end Layout

/-- Settles O10: each request passes the mechanism's gate and then meets R180's checks in their order. -/
theorem layoutRequestsSetOrRefuse : Obligations.LayoutRequestsSetOrRefuse := by
  constructor
  · intro s num args taken mech
    refine ⟨fun l r given lt fits apart => ?_, fun p given fits fresh room => ?_,
      fun p given fits listed => ?_, fun ps given few order fit => ?_⟩
    · exact gated_sets taken mech rfl ((doSetMargins_of given).trans (if_pos ⟨lt, fits, apart⟩))
    · exact gated_sets taken mech rfl ((doSetTab_of given).trans
        (by simp [Nat.not_lt.mpr fits, fresh, Nat.not_le.mpr room]))
    · exact gated_sets taken mech rfl ((doClearTab_of given).trans
        (by simp [Nat.not_lt.mpr fits, listed]))
    · exact gated_sets taken mech rfl ((doClearTabs_of given).trans (if_pos ⟨few, order, fit⟩))
  · intro s num args taken mech
    refine ⟨fun length => ?_, fun l r given bad => ?_, fun length => ⟨?_, ?_⟩,
      fun p given past => ⟨?_, ?_⟩, fun p given fits listed => ?_,
      fun p given fits fresh => ⟨fun full => ?_, ?_⟩, fun odd => ?_, fun ps given bad => ?_⟩
    · exact layout_refused taken mech .badValue rfl (doSetMargins_length length)
    · exact layout_refused taken mech .badValue rfl ((doSetMargins_of given).trans (if_neg bad))
    · exact layout_refused taken mech .badValue rfl (doSetTab_length length)
    · exact layout_refused taken mech .badValue rfl (doClearTab_length length)
    · exact layout_refused taken mech .badValue rfl ((doSetTab_of given).trans (if_pos past))
    · exact layout_refused taken mech .badValue rfl ((doClearTab_of given).trans (if_pos past))
    · exact layout_refused taken mech .already rfl ((doSetTab_of given).trans
        (by simp [Nat.not_lt.mpr fits, listed]))
    · exact layout_refused taken mech .listFull rfl ((doSetTab_of given).trans
        (by simp [Nat.not_lt.mpr fits, fresh, full]))
    · exact layout_refused taken mech .notFound rfl ((doClearTab_of given).trans
        (by simp [Nat.not_lt.mpr fits, fresh]))
    · exact layout_refused taken mech .badValue rfl (doClearTabs_odd odd)
    · exact layout_refused taken mech .badValue rfl ((doClearTabs_of given).trans (if_neg bad))

/-! ## Settings (R171, R180) -/

theorem doSetPitch_length (h : args.length ≠ 1) : s.doSetPitch args = s.answer .badValue := by
  unfold State.doSetPitch
  split
  · simp at h
  · rfl
theorem doSetSpacing_length (h : args.length ≠ 1) : s.doSetSpacing args = s.answer .badValue := by
  unfold State.doSetSpacing
  split
  · simp at h
  · rfl
theorem doSetImpression_length (h : args.length ≠ 1) :
    s.doSetImpression args = s.answer .badValue := by
  unfold State.doSetImpression
  split
  · simp at h
  · rfl
theorem doSetSpellMode_length (h : args.length ≠ 1) : s.doSetSpellMode args = s.answer .badValue := by
  unfold State.doSetSpellMode
  split
  · simp at h
  · rfl
theorem doSetToneVolume_length (h : args.length ≠ 1) :
    s.doSetToneVolume args = s.answer .badValue := by
  unfold State.doSetToneVolume
  split
  · simp at h
  · rfl
theorem doSetTypingMode_length (h : args.length ≠ 2) :
    s.doSetTypingMode args = s.answer .badValue := by
  unfold State.doSetTypingMode
  split
  · simp at h
  · rfl

/-- What SET_TYPING_MODE leaves of a state: the mode and the format set, the format applied at once to an
OPEN line with no cells (R180). -/
def State.withTypingMode (m : TypingMode) (f : Format) (s : State) : State :=
  let t := s.writeSettings fun q => { q with mode := m, format := f }
  if s.line.state = .open ∧ s.line.cells = [] then { t with line := { t.line with format := f } } else t

theorem doSetTypingMode_done {b2 : Byte} {m : TypingMode} {f : Format} (hm : modeArg b = some m)
    (hf : formatArg b2 = some f) (settled : s.line.settled = true) :
    s.doSetTypingMode [b, b2] = (s.withTypingMode m f).answerDone := by
  simp [State.doSetTypingMode, hm, hf, settled, State.withTypingMode]

theorem withTypingMode_line (m f) : (s.withTypingMode m f).line =
    if s.line.state = .open ∧ s.line.cells = [] then { s.line with format := f } else s.line := by
  unfold State.withTypingMode
  split <;> rfl

/-- SET_TYPING_MODE writes the settings and the line alone. -/
theorem withTypingMode_eq (m f) : ∃ l, s.withTypingMode m f =
    { s.writeSettings fun q => { q with mode := m, format := f } with line := l } := by
  unfold State.withTypingMode
  split <;> exact ⟨_, rfl⟩

theorem doSetToneVolume_done {v : Volume} (h : volumeArg b = some v) : s.doSetToneVolume [b] =
    ({ s.writeSettings fun q => { q with volume := v } with
        tone := if v = .off then ⟨none, none⟩ else s.tone } : State).answerDone := by
  simp only [State.doSetToneVolume, h, State.volumeChanged]
  by_cases off : v = .off
  · simp only [off, if_true, State.writeSettings]
  · simp only [off, if_false, State.writeSettings]

/-- Settles O11: the arguments are read by R185's tables, and what they give is written in use and in the
Retained Area. -/
theorem settingRequestsSet : Obligations.SettingRequestsSet := by
  constructor
  · intro s num b b2 taken taken2 mech
    refine ⟨fun p given => ?_, fun p given => ?_, ?_, fun m f hm hf settled => ?_, fun v given => ?_⟩
    · obtain ⟨t, ends, set, answered, ⟨line, text, strikes, keys, spell, _⟩, mechanism⟩ :=
        gated_sets (c := .setPitch num [b]) taken mech rfl
          (f := fun q => { q with pitch := p }) (by simp [State.doSetPitch, given])
      exact ⟨t, ends, set, answered, ⟨text, strikes, keys, spell, mechanism⟩, line⟩
    · obtain ⟨t, ends, set, answered, ⟨line, text, strikes, keys, spell, _⟩, mechanism⟩ :=
        gated_sets (c := .setSpacing num [b]) taken mech rfl
          (f := fun q => { q with spacing := p }) (by simp [State.doSetSpacing, given])
      exact ⟨t, ends, set, answered, ⟨text, strikes, keys, spell, mechanism⟩, line⟩
    · obtain ⟨ends, answered⟩ := request_answered (c := .setImpression num [b]) taken rfl
        (onRequest_gateAdjust mech) rfl rfl
      exact ⟨_, ends, setBy_answering.mpr ⟨rfl, rfl⟩, answered,
        ⟨by simp, by simp, by simp, by simp, sameMechanism_answering.mpr
          ⟨rfl, rfl, rfl, rfl, rfl, rfl, rfl⟩⟩, by simp⟩
    · obtain ⟨l, written⟩ := withTypingMode_eq (s := s.onRequest num 0x08 [b, b2]) m f
      obtain ⟨ends, answered⟩ := request_answered (c := .setTypingMode num [b, b2]) taken2 rfl
        ((onRequest_gateAdjust mech).trans (doSetTypingMode_done hm hf settled)) (by rw [written]; rfl)
          (by rw [written]; rfl)
      refine ⟨_, ends, setBy_answering.mpr ?_, answered, ⟨?_, ?_, ?_, ?_,
        sameMechanism_answering.mpr ?_⟩, ?_⟩
      · rw [written]; exact ⟨rfl, rfl⟩
      · rw [answering_text, written]; rfl
      · rw [answering_strikes, written]; rfl
      · rw [answering_keys, written]; rfl
      · rw [answering_spell, written]; rfl
      · rw [written]; exact ⟨rfl, rfl, rfl, rfl, rfl, rfl, rfl⟩
      · rw [answering_line, withTypingMode_line]; rfl
    · obtain ⟨ends, answered⟩ := request_answered (c := .setToneVolume num [b]) taken rfl
        ((onRequest_gateAdjust mech).trans (doSetToneVolume_done given)) rfl rfl
      exact ⟨_, ends, setBy_answering.mpr ⟨rfl, rfl⟩, answered,
        ⟨by simp, by simp, by simp, by simp, sameMechanism_answering.mpr
          ⟨rfl, rfl, rfl, rfl, rfl, rfl, rfl⟩⟩, by simp, by simp⟩
  · intro s num args taken mech
    refine ⟨fun length => ⟨?_, ?_, ?_, ?_, ?_⟩, fun length => ?_, fun b single => ⟨fun bad => ?_,
      fun bad => ?_, fun bad => ?_, fun bad => ?_⟩, fun b b2 pair => ⟨fun bad => ?_,
      fun m f hm hf unsettled => ?_⟩⟩
    · exact gated_refused (r := .badValue) taken mech rfl (doSetPitch_length length)
    · exact gated_refused (r := .badValue) taken mech rfl (doSetSpacing_length length)
    · exact gated_refused (r := .badValue) taken mech rfl (doSetImpression_length length)
    · exact gated_refused (r := .badValue) taken mech rfl (doSetSpellMode_length length)
    · exact gated_refused (r := .badValue) taken mech rfl (doSetToneVolume_length length)
    · exact gated_refused (r := .badValue) taken mech rfl (doSetTypingMode_length length)
    all_goals subst args
    · exact gated_refused (r := .badValue) taken mech rfl (by simp [State.doSetPitch, bad])
    · exact gated_refused (r := .badValue) taken mech rfl (by simp [State.doSetSpacing, bad])
    · exact gated_refused (r := .badValue) taken mech rfl (by simp [State.doSetSpellMode, bad])
    · exact gated_refused (r := .badValue) taken mech rfl (by simp [State.doSetToneVolume, bad])
    · refine gated_refused (r := .badValue) taken mech rfl ?_
      unfold State.doSetTypingMode
      obtain bad | bad := bad <;> simp [bad]
    · exact gated_refused (r := .badState) taken mech rfl
        (by simp [State.doSetTypingMode, hm, hf, unsettled])

end Sys2Proof.Machine
end

section
/-! Proofs about the requests that change the User Word List and the notice mask, and about those that
read a page or the line (R157, R180 to R182, R185). -/

namespace Sys2Proof.Machine

variable {s u o : State} {num code : Byte} {args p : List Byte} {act : State → Acted} {c : Instr}

/-! ## Words and masks -/

/-- A formed answer goes before any notice: the Notice Table stays (R179). -/
@[simp] theorem answering_notices (u o : State) (p) : (u.answering o p).notices = u.notices := by
  obtain ⟨d, rendered⟩ := renderIf_eq
    ({ u with link := { u.link with slotAnswer := some p } } : State) o
  unfold State.answering State.finish
  rw [rendered]
  cases held : u.link.transmitter with
  | idle => simp [State.transmit, held, State.chooseFrame, State.sendFrame]
  | sending w f => simp [State.transmit, held]

/-- A request outside ADJUST that leaves all but the Notice Table and the Retained Area. -/
theorem gated_retains {v : State} {r : Result} (taken : s.takesRequest args)
    (mech : s.seq.mech ≠ .adjust)
    (run : exec c s = .next (s.offerRequest num code args fun s => s.gateAdjust (act s)))
    (acts : act (s.onRequest num code args) = ⟨v, r, []⟩)
    (writes : ∃ n q, v = { s.onRequest num code args with notices := n, retained := q }) :
    ∃ t, exec c s = .next t ∧ s.answered t [num, byteOf r.number] ∧ t.notices = v.notices ∧
      t.retained = v.retained ∧ t.settings = s.settings ∧ s.sameWork t ∧ s.sameMechanism t := by
  obtain ⟨n, q, rfl⟩ := writes
  obtain ⟨ends, answered⟩ := request_answered taken run ((onRequest_gateAdjust mech).trans acts) rfl rfl
  exact ⟨_, ends, answered, answering_notices .., answering_retained .., answering_settings ..,
    sameWork_answering.mpr (onRequest_sameWork s num code args),
    sameMechanism_answering.mpr (onRequest_sameMechanism s num code args)⟩

section Words
variable {w : List Nat} (fold : foldCodes args = some w)
include fold

theorem doAddWord_of : s.doAddWord args =
    if wordForm w = false then s.answer .badValue
    else if w ∈ s.retained.words then s.answer .already
    else if 48 ≤ s.retained.words.length then s.answer .listFull
    else (s.setWords (s.retained.words ++ [w])).answerDone := by
  simp [State.doAddWord, fold, Config.wordPlaces]
  rfl
theorem doRemoveWord_of (short : 2 ≤ args.length) (long : args.length ≤ 24) :
    s.doRemoveWord args =
      if w ∈ s.retained.words then
        (s.setWords (s.retained.words.filter (· ≠ w))).answerDone
      else s.answer .notFound := by
  have range : (args.length < 2 || Config.longestWord < args.length) = false := by
    rw [Bool.or_eq_false_iff, decide_eq_false_iff_not, decide_eq_false_iff_not, Config.longestWord]
    omega
  rw [State.doRemoveWord, range]
  simp [fold]

end Words

/-- A word request ends with the User Word List it leaves, and all else stays. -/
theorem word_request {r : Result} {ws : List (List Nat)} (taken : s.takesRequest args)
    (mech : s.seq.mech ≠ .adjust)
    (run : exec c s = .next (s.offerRequest num code args fun s => s.gateAdjust (act s)))
    (acts : act (s.onRequest num code args) = ⟨(s.onRequest num code args).setWords ws, r, []⟩) :
    ∃ t, exec c s = .next t ∧ s.answered t [num, byteOf r.number] ∧
      t.retained = { s.retained with words := ws } ∧ t.settings = s.settings ∧ s.sameWork t ∧
      s.sameMechanism t := by
  obtain ⟨t, ends, answered, _, retained, rest⟩ :=
    gated_retains taken mech run acts ⟨_, _, rfl⟩
  exact ⟨t, ends, answered, retained, rest⟩

/-- The fold of a mask over the rows: each kind it names takes the flag, the others stay. -/
theorem foldl_enabled (named : NoticeKind → Bool) (on : Bool) (l : List NoticeKind) (rows : NoticeRows)
    (k : NoticeKind) :
    ((l.foldl (fun t k => if named k then t.setRow k { t.row k with enabled := on } else t)
      rows).row k).enabled = if k ∈ l ∧ named k then on else (rows.row k).enabled := by
  induction l generalizing rows with
  | nil => simp
  | cons j l ih =>
    rw [List.foldl_cons, ih]
    by_cases found : k ∈ l ∧ named k = true
    · simp [found]
    · rw [if_neg found]
      by_cases same : k = j
      · subst same
        cases hk : named k <;> simp [setRow_row]
      · have other : ¬ (k ∈ j :: l ∧ named k = true) := fun h =>
          found ⟨(List.mem_cons.mp h.1).resolve_left same, h.2⟩
        rw [if_neg other]
        cases named j <;> simp [setRow_row, same]

theorem NoticeKind.mem_all (k : NoticeKind) : k ∈ NoticeKind.all := by
  cases k <;> decide

theorem maskNotices_enabled (m : Nat) (on : Bool) (k : NoticeKind) :
    ((s.maskNotices m on).notices.rows.row k).enabled =
      if m.testBit (k.number - 1) then on else (s.notices.rows.row k).enabled := by
  simp [State.maskNotices, foldl_enabled, NoticeKind.mem_all]
theorem maskNotices_retained (m : Nat) (on : Bool) : (s.maskNotices m on).retained =
    { s.retained with
      mask := NoticeKind.all.map fun k => ((s.maskNotices m on).notices.rows.row k).enabled } := rfl

theorem doMask_of {m : Nat} (on : Bool) (given : wides args = some [m]) : s.doMask on args =
    if m < 2 ^ 14 then (s.maskNotices m on).answerDone else s.answer .badValue := by
  simp only [State.doMask, given]

/-- A mask request runs its act behind ADJUST's gate. -/
theorem exec_mask (on : Bool) (s : State) :
    exec (if on then .enableNotices num args else .disableNotices num args) s =
      .next (s.offerRequest num (if on then 0x0D else 0x0E) args
        fun s => s.gateAdjust (s.doMask on args)) := by
  cases on <;> rfl

/-- Settles O13: each request passes the gate and then meets the checks of R157 and R180. -/
theorem wordAndMaskRequests : Obligations.WordAndMaskRequests := by
  constructor
  · intro s num args w taken mech fold short long
    refine ⟨fun bad => ?_, fun good listed => ?_, fun good fresh full => ?_,
      fun good fresh room => ?_, fun listed => ?_, fun fresh => ?_⟩
    · exact word_request (r := .badValue) taken mech rfl
        ((doAddWord_of fold).trans (if_pos bad))
    · exact word_request (r := .already) taken mech rfl
        ((doAddWord_of fold).trans (by simp [good, listed]; rfl))
    · exact word_request (r := .listFull) taken mech rfl
        ((doAddWord_of fold).trans (by simp [good, fresh, full]; rfl))
    · exact word_request (r := .done) taken mech rfl
        ((doAddWord_of fold).trans (by simp [good, fresh, Nat.not_le.mpr room]; rfl))
    · exact word_request (r := .done) taken mech rfl
        ((doRemoveWord_of fold short long).trans (if_pos listed))
    · exact word_request (r := .notFound) taken mech rfl
        ((doRemoveWord_of fold short long).trans (if_neg fresh))
  · intro s num args m on taken mech given
    refine ⟨fun fits => ?_, fun past => ?_⟩
    · obtain ⟨t, ends, answered, notices, retained, settings, work, mechanism⟩ :=
        gated_retains (r := .done) (v := (s.onRequest num _ args).maskNotices m on) taken mech
          (exec_mask on s) ((doMask_of on given).trans (if_pos fits)) ⟨_, _, rfl⟩
      refine ⟨t, ends, answered, work, mechanism, settings, fun k => ?_, ?_⟩
      · rw [notices, maskNotices_enabled]; rfl
      · rw [notices, retained, maskNotices_retained]; rfl
    · obtain ⟨t, ends, settings, answered, work, mechanism, _⟩ :=
        gated_refused (r := .badValue) taken mech (exec_mask on s)
          ((doMask_of on given).trans (if_neg (Nat.not_lt.mpr past)))
      exact ⟨t, ends, answered, work, mechanism, settings⟩

/-! ## Pages (R185) -/

/-- More filling than is taken changes nothing. -/
theorem take_filled_add {α : Type} (l : List α) (a : α) (m k : Nat) :
    (l ++ List.replicate (m + k) a).take m = (l ++ List.replicate m a).take m := by
  rw [List.replicate_add, ← List.append_assoc, List.take_append_of_le_length (by simp)]

/-- The first 2 * n bytes of a list of positions filled up with FF, place by place. -/
theorem filled_places (n : Nat) (tabs : List Nat) :
    ((tabs.flatMap wideBytes) ++ List.replicate (2 * n) 0xFF).take (2 * n) =
      (List.range n).flatMap fun j => match tabs[j]? with
        | some p => [byteOf (p / 256), byteOf p] | none => [0xFF, 0xFF] := by
  induction n generalizing tabs with
  | zero => simp
  | succ n ih =>
    rw [List.range_succ_eq_map, List.flatMap_cons, List.flatMap_map]
    cases tabs with
    | nil =>
      have rest := ih []
      simp only [List.flatMap_nil, List.nil_append, List.getElem?_nil] at rest ⊢
      simpa [Nat.mul_succ, List.replicate_succ] using rest
    | cons p tabs =>
      have rest := ih tabs
      simp only [List.flatMap_cons, wideBytes, List.getElem?_cons_zero, Nat.succ_eq_add_one,
        List.getElem?_cons_succ, Nat.mul_succ, List.cons_append, List.nil_append, List.take_succ_cons]
      rw [← rest]
      rw [take_filled_add]

theorem wideBytes_length (n : Nat) : (wideBytes n).length = 2 := rfl

theorem page2_length (s : State) : s.page2.length = 45 := by
  simp [State.page2, wideBytes_length]

/-- The first eight bytes of a payload filled up with zeros, place by place. -/
theorem filled_payload (l : List Byte) (n : Nat) :
    (l ++ List.replicate n 0x00).take n = (List.range n).map fun j => l.getD j 0x00 := by
  refine List.ext_getElem (by simp) fun i _ _ => ?_
  by_cases given : i < l.length <;> simp [given, List.getElem_append]

theorem page1_empty {l : Link} (h : l.errorLog = none) :
    l.page1 = List.replicate 13 0x00 ++ [byteOf l.errorCount] := by simp [Link.page1, h]

theorem page1_logged {l : Link} {r : ErrorRecord} (h : l.errorLog = some r) : l.page1 =
    [byteOf (1 + (if r.kind = none then 0 else 2) + (if r.length = none then 0 else 4)),
      byteOf r.error.number, r.kind.getD 0x00, r.length.getD 0x00, byteOf r.payload.length] ++
    (List.range 8).map (fun j => r.payload.getD j 0x00) ++ [byteOf l.errorCount] := by
  simp only [Link.page1, h, filled_payload]
  cases r.kind <;> cases r.length <;> rfl

theorem knownFamily_isNone (n : Nat) :
    bit (knownFamily n).isNone = if 1 ≤ n ∧ n ≤ 9 then 0 else 1 := by
  by_cases within : 1 ≤ n ∧ n ≤ 9 <;> simp [knownFamily, within, bit]

/-! ## Requests that read -/

/-- A request that reads is answered with what it read, and all stays. -/
theorem request_reads {data : List Byte} (taken : s.takesRequest args)
    (run : exec c s = .next (s.offerRequest num code args act))
    (acts : act (s.onRequest num code args) = ⟨s.onRequest num code args, .done, data⟩) :
    ∃ t, exec c s = .next t ∧ s.answered t (num :: 0x00 :: data) ∧ s.sameWork t ∧
      s.sameMechanism t ∧ s.sameSettings t ∧ t.tone = s.tone := by
  obtain ⟨t, ends, answered, mechanism, work, settings, tone⟩ := request_unchanged taken run acts
  exact ⟨t, ends, answered, work, mechanism, settings, tone⟩

/-- Settles O14: the reads leave the state, and each page is laid out by R185. -/
theorem readingAndLogRequests : Obligations.ReadingAndLogRequests := by
  refine ⟨fun s num b taken => ⟨?_, ?_, ?_, ?_, page2_length s, fun half mech => ?_⟩,
    fun s num taken mech => ⟨fun args sixteen => ?_, ?_⟩, fun s => ⟨page1_empty, fun r logged => ?_,
      ?_, ?_⟩⟩
  · rintro rfl
    exact request_reads taken rfl rfl
  · rintro rfl
    exact request_reads taken rfl rfl
  · rintro rfl
    exact request_reads taken rfl rfl
  · rintro rfl
    exact request_reads taken rfl rfl
  · exact request_reads taken rfl ((onRequest_gateAdjust mech).trans (if_pos half))
  · obtain ⟨live, receiver, _, idle⟩ := taken
    obtain ⟨t, ends, answered, _, retained, settings, work, mechanism⟩ :=
      gated_retains (c := .writeTestPattern num args) (r := .done)
        ⟨live, receiver, by omega, idle⟩ mech rfl (if_pos sixteen) ⟨_, _, rfl⟩
    exact ⟨t, ends, answered, retained, settings, work, mechanism⟩
  · obtain ⟨ends, answered⟩ := request_answered (c := .clearErrorLog num []) taken rfl
      (onRequest_gateAdjust mech) rfl rfl
    exact ⟨_, ends, answered, answering_errorLog .., answering_errorCount ..,
      sameSettings_answering.mpr ⟨rfl, rfl⟩,
      sameWork_answering.mpr ⟨rfl, rfl, rfl, rfl, rfl, rfl, rfl⟩,
      sameMechanism_answering.mpr ⟨rfl, rfl, rfl, rfl, rfl, rfl, rfl⟩⟩
  · rw [page1_logged logged]
    cases r.error <;> rfl
  · rw [State.page2, show List.replicate 32 (0xFF : Byte) = List.replicate (2 * 16) 0xFF from rfl,
      show (32 : Nat) = 2 * 16 from rfl, filled_places]
    cases s.settings.pitch <;> rfl
  · simp only [State.page3, knownFamily_isNone, wideBytes, List.cons_append, List.nil_append,
      List.cons.injEq]
    refine ⟨trivial, trivial, ?present, ?ribbon, ?tape, rfl, rfl, rfl, rfl, trivial, trivial, ?mech,
      rfl, ?fault, rfl, trivial⟩
    case present => cases s.wheel.present <;> rfl
    case ribbon => rcases s.ribbon.kind with _ | _ | _ | _ <;> rfl
    case tape => rcases s.ribbon.tape with _ | _ | _ <;> rfl
    case mech => cases s.seq.mech <;> rfl
    case fault => rcases s.seq.fault with _ | _ | _ | _ | _ | _ <;> rfl

end Sys2Proof.Machine
end

section
/-! Rules about the Print Sequencer's decision: where it stands at once, and what the decision at a boundary
leaves (R75, R83 to R85). -/

namespace Sys2Proof.Machine

variable {s : State}

/-- A first decision that leaves the sequencer in a stage or at rest is the whole of it. -/
theorem sequence_of_decided (h : s.decideState.undecided = false) : s.sequence = s.decideState := by
  unfold State.sequence State.seqLoop
  simp [h]

theorem undecided_of_mech (h : s.seq.mech ≠ .running) : s.undecided = false := by
  simp [State.undecided, h]

theorem atBoundary_running (h : s.seq.mech = .running) :
    s.atBoundary = (s.seq.stage.isNone && !s.seq.draining) := by
  simp [State.atBoundary, h]

/-- Off a boundary the halt cause set alone is kept. -/
theorem sequence_off_boundary (h : s.atBoundary = false) : s.sequence = s.storeCauses := by
  have decided : s.decideState = s.storeCauses := by simp [State.decideState, h]
  rw [sequence_of_decided] <;> rw [decided]
  change s.undecided = false
  unfold State.undecided
  cases mech : s.seq.mech <;> simp_all [State.atBoundary]

/-- At a boundary with a cause in the set the mechanism is halted. -/
theorem sequence_halted (boundary : s.atBoundary = true) (causes : s.causesNow ≠ []) :
    s.sequence = s.toHalted := by
  have decided : s.decideState = s.toHalted := by simp [State.decideState, boundary, causes]
  rw [sequence_of_decided] <;> rw [decided]
  refine undecided_of_mech ?_
  unfold State.toHalted
  simp only
  split <;> simp [State.setMech]

/-- What a decision without a cause leaves before it sets the state: a halt that ends raises CLEARED. -/
def State.cleared (s : State) : State :=
  if s.seq.mech = .halted then s.storeCauses.raise .cleared [0] else s.storeCauses

theorem cleared_eq (s : State) : ∃ n, s.cleared = { s.storeCauses with notices := n } := by
  unfold State.cleared
  split <;> exact ⟨_, rfl⟩

/-- At a boundary with no cause and the pause flag set the mechanism is paused. -/
theorem sequence_paused (boundary : s.atBoundary = true) (causes : s.causesNow = [])
    (pause : s.seq.pause = true) : s.sequence = s.cleared.setMech .paused := by
  have decided : s.decideState = s.cleared.setMech .paused := by
    simp [State.decideState, boundary, causes, State.decideClear, State.cleared, pause]
  rw [sequence_of_decided] <;> rw [decided]
  exact undecided_of_mech (by simp [State.setMech])

/-- At a boundary with no cause, no pause and an empty queue the mechanism is idle. -/
theorem sequence_idle (boundary : s.atBoundary = true) (causes : s.causesNow = [])
    (pause : s.seq.pause = false) (empty : s.strikes.entries = []) :
    s.sequence = s.cleared.setMech .idle := by
  have decided : s.decideState = s.cleared.setMech .idle := by
    simp [State.decideState, boundary, causes, State.decideClear, State.cleared, pause, empty]
  rw [sequence_of_decided] <;> rw [decided]
  exact undecided_of_mech (by simp [State.setMech])

/-- At a boundary with no cause and no pause the head entry is taken up, and its start is the whole decision
where it leaves a stage or a state other than RUNNING. -/
theorem sequence_begins {e : Entry} {rest : List Entry} (boundary : s.atBoundary = true)
    (causes : s.causesNow = []) (pause : s.seq.pause = false) (head : s.strikes.entries = e :: rest)
    (begun : ((s.cleared.setMech .running).beginHead e).undecided = false) :
    s.sequence = (s.cleared.setMech .running).beginHead e := by
  have decided : s.decideState = (s.cleared.setMech .running).beginHead e := by
    simp [State.decideState, boundary, causes, State.decideClear, State.cleared, pause, head]
  rw [sequence_of_decided] <;> rw [decided]
  exact begun

end Sys2Proof.Machine
end

section
/-! Proofs about the requests that act on the mechanism, about ADJUST, and about the gates that every request
meets (R75, R87, R90, R178, R180, R181, R190 to R193). -/

namespace Sys2Proof.Machine

variable {s u o : State} {num code : Byte} {args p : List Byte} {act : State → Acted} {c : Instr}

/-! ## PAUSE and CONTINUE (R75, R87) -/

theorem exec_pauseFlag (p : Bool) (s : State) :
    exec (if p then .pauseRequest num [] else .continueRequest num []) s =
      .next (s.offerRequest num (if p then 0x13 else 0x14) []
        fun s => s.gateBoth (s.doPause p [])) := by
  cases p <;> rfl

/-- The Print Sequencer's decision leaves what a request's answer needs. -/
theorem sequence_link (u : State) : u.sequence.link = u.link := by
  obtain ⟨_, _, link, _⟩ := Kept.fields (sequence_kept (s := u))
  exact link
theorem sequence_keys (u : State) : u.sequence.keys = u.keys := by
  obtain ⟨_, _, _, keys, _⟩ := Kept.fields (sequence_kept (s := u))
  exact keys
theorem sequence_pause (u : State) : u.sequence.seq.pause = u.seq.pause := by
  obtain ⟨_, _, _, _, _, _, _, _, _, pause, _⟩ := Kept.fields (sequence_kept (s := u))
  exact pause
theorem sequence_settings (u : State) :
    u.sequence.settings = u.settings ∧ u.sequence.retained = u.retained := by
  obtain ⟨_, _, _, _, settings, retained, _⟩ := Kept.fields (sequence_kept (s := u))
  exact ⟨settings, retained⟩

/-- What the end of an event leaves of the kept fields but the transmitter and the waiting answers. -/
theorem conclude_leaves (u o : State) : (u.conclude o).keys = u.keys ∧
    (u.conclude o).settings = u.settings ∧ (u.conclude o).retained = u.retained ∧
      (u.conclude o).seq.pause = u.seq.pause := by
  obtain ⟨tr, sa, ba, kept⟩ := conclude_kept u o
  simp only [State.kept, Kept.mk.injEq] at kept
  obtain ⟨_, _, _, keys, settings, retained, _, _, _, pause, _⟩ := kept
  exact ⟨keys, settings, retained, pause⟩

/-- Settles O15: the flag is written, and the decision follows in the same event. -/
theorem pauseAndContinue : Obligations.PauseAndContinue := by
  constructor
  · intro s num p taken starting adjust v u
    have link := sequence_link u
    obtain ⟨ends, answered⟩ := request_answered (v := u.sequence) (r := .done) taken
      (exec_pauseFlag p s) (onRequest_gateBoth starting adjust) (by rw [link]; rfl)
      (by rw [link]; rfl)
    refine ⟨_, ends, rfl, answered, answering_seq .., ?_, ?_, ?_, fun on idle none => ?_,
      fun off paused none empty => ?_⟩
    · rw [answering_seq, sequence_pause]
    · rw [answering_keys, sequence_keys]; rfl
    · exact sameSettings_answering.mpr (sequence_settings u)
    · have boundary : u.atBoundary = true := by simp [State.atBoundary, u, idle]
      rw [answering_seq, sequence_paused boundary none on]
      rfl
    · have boundary : u.atBoundary = true := by simp [State.atBoundary, u, paused]
      rw [answering_seq, sequence_idle boundary none off empty]
      rfl
  · intro s e taken u
    obtain ⟨keys, settings, retained, pause⟩ := conclude_leaves u s
    exact ⟨congrArg _ (examine_takes taken rfl), pause, keys, settings, retained⟩

/-! ## RESUME, RESTART and SOUND_TONE -/

/-- RESUME begins no homing while one runs. -/
theorem mayResume_iff : s.mayResume = true ↔ s.seq.recovering = false ∧
    s.inputs.cover.qualified = false ∧ s.wheel.ident = .idle ∧ ∀ st, s.carrier.move ≠ .homing st := by
  unfold State.mayResume
  cases s.carrier.move <;> simp [and_assoc]

/-- Settles O16: R90's conditions, then the homing. -/
theorem resumeBeginsHoming : Obligations.ResumeBeginsHoming := by
  intro s num taken
  refine ⟨fun fault recovering cover ident move => ?_, fun r refused => ?_⟩
  · have may : s.mayResume = true := mayResume_iff.mpr ⟨recovering, cover, ident, move⟩
    have acts : (s.onRequest num 0x15 []).doResume [] =
        (({ s.onRequest num 0x15 [] with seq := { s.seq with recovering := true } } : State).beginHoming
          ).answerDone := by
      change (if s.seq.mech ≠ .fault then _ else if s.mayResume = true then _ else _) = _
      rw [if_neg (not_not.mpr fault), if_pos may]
      rfl
    obtain ⟨ends, answered⟩ := request_answered (c := .resume num []) taken rfl
      ((onRequest_gateBoth (by simp [fault]) (by simp [fault])).trans acts) rfl rfl
    exact ⟨_, ends, answered, answering_seq .., answering_carrier ..,
      sameWork_answering.mpr ⟨rfl, rfl, rfl, rfl, rfl, rfl, rfl⟩, sameSettings_answering.mpr ⟨rfl, rfl⟩⟩
  · have refuses (q : Result) (gated : (s.onRequest num 0x15 []).gateBoth
        ((s.onRequest num 0x15 []).doResume []) = (s.onRequest num 0x15 []).answer q) :
        ∃ t, exec (.resume num []) s = .next t ∧ s.answered t [num, byteOf q.number] ∧
          s.sameMechanism t ∧ s.sameWork t ∧ s.sameSettings t := by
      obtain ⟨t, ends, settings, answered, work, mechanism, _⟩ :=
        request_refused (c := .resume num []) taken rfl gated
      exact ⟨t, ends, answered, mechanism, work, settings⟩
    obtain ⟨starting, rfl⟩ | ⟨fault, hinders, rfl⟩ | ⟨starting, fault, rfl⟩ := refused
    · exact refuses .notReady (gateBoth_starting starting)
    · have may : ¬ s.mayResume = true := fun may => by
        obtain ⟨recovering, cover, ident, move⟩ := mayResume_iff.mp may
        obtain h | h | h | ⟨st, h⟩ := hinders
        · simp [recovering] at h
        · simp [cover] at h
        · exact h ident
        · exact move st h
      refine refuses .notReady ((onRequest_gateBoth (by simp [fault]) (by simp [fault])).trans ?_)
      change (if s.seq.mech ≠ .fault then _ else if s.mayResume = true then _ else _) = _
      rw [if_neg (not_not.mpr fault), if_neg may]
    · by_cases adjust : s.seq.mech = .adjust
      · exact refuses .badState (gateBoth_adjust adjust)
      · refine refuses .badState ((onRequest_gateBoth starting adjust).trans ?_)
        exact if_pos fault

/-- Settles O17: neither request meets a gate. -/
theorem restartAndToneRequests : Obligations.RestartAndToneRequests := by
  intro s num taken
  refine ⟨?_, fun b k given => ?_⟩
  · obtain ⟨ends, answered⟩ := request_answered (c := .restart num []) (r := .done) taken rfl rfl rfl rfl
    exact ⟨_, ends, answered, answering_slot .., sameMechanism_answering.mpr
      ⟨rfl, rfl, rfl, rfl, rfl, rfl, rfl⟩, sameWork_answering.mpr ⟨rfl, rfl, rfl, rfl, rfl, rfl, rfl⟩,
      sameSettings_answering.mpr ⟨rfl, rfl⟩⟩
  · obtain ⟨live, receiver, _, idle⟩ := taken
    have taken : s.takesRequest [b] := ⟨live, receiver, by simp, idle⟩
    have acts : (s.onRequest num 0x1B [b]).doSoundTone [b] =
        ((s.onRequest num 0x1B [b]).requestTone k false).answerDone := by
      simp [State.doSoundTone, given]
    obtain ⟨ends, answered⟩ := request_answered (c := .soundTone num [b]) taken rfl acts rfl rfl
    exact ⟨_, ends, answered, answering_tone .., sameMechanism_answering.mpr
      ⟨rfl, rfl, rfl, rfl, rfl, rfl, rfl⟩, sameWork_answering.mpr ⟨rfl, rfl, rfl, rfl, rfl, rfl, rfl⟩,
      sameSettings_answering.mpr ⟨rfl, rfl⟩⟩

/-! ## ADJUST (R190 to R193) -/

theorem doEnterAdjust_of : s.doEnterAdjust [] =
    if s.seq.mech = .idle ∧ s.line.state = .open ∧ s.line.cells = [] then
      ({ s with seq := { s.seq with mech := .adjust, testPos := some s.line.start } } : State).answerDone
    else s.answer .badState := by
  simp [State.doEnterAdjust, and_assoc]

theorem doAdjustStep_of {a b : Byte} {k : Trim} {d : Int} (trim : trimArg a = some k)
    (step : trimStep b = some d) : s.doAdjustStep [a, b] =
    if -k.limit ≤ s.retained.trim k + d ∧ s.retained.trim k + d ≤ k.limit then
      ({ s with retained := s.retained.setTrim k (s.retained.trim k + d) } : State).answerDone
    else s.answer .atLimit := by
  simp [State.doAdjustStep, trim, step]

/-- Settles O18: R190's and R191's checks. -/
theorem adjustEntryAndSteps : Obligations.AdjustEntryAndSteps := by
  constructor
  · intro s num taken starting
    split
    next enters =>
      have adjust : s.seq.mech ≠ .adjust := by simp [enters.1]
      obtain ⟨ends, answered⟩ := request_answered (c := .enterAdjust num []) taken rfl
        ((onRequest_gateBoth starting adjust).trans (doEnterAdjust_of.trans (if_pos enters))) rfl rfl
      exact ⟨_, ends, answered, answering_seq .., sameWork_answering.mpr
        ⟨rfl, rfl, rfl, rfl, rfl, rfl, rfl⟩, sameSettings_answering.mpr ⟨rfl, rfl⟩⟩
    next refused =>
      have gated : (s.onRequest num 0x17 []).gateBoth ((s.onRequest num 0x17 []).doEnterAdjust []) =
          (s.onRequest num 0x17 []).answer .badState := by
        by_cases adjust : s.seq.mech = .adjust
        · exact gateBoth_adjust adjust
        · exact (onRequest_gateBoth starting adjust).trans (doEnterAdjust_of.trans (if_neg refused))
      obtain ⟨t, ends, settings, answered, work, mechanism, _⟩ :=
        request_refused (c := .enterAdjust num []) taken rfl gated
      exact ⟨t, ends, answered, mechanism, work, settings⟩
  · intro s num a b k d taken adjust trim step v
    split
    next fits =>
      obtain ⟨ends, answered⟩ := request_answered (c := .adjustStep num [a, b]) taken rfl
        ((onRequest_gateService adjust).trans ((doAdjustStep_of trim step).trans (if_pos fits))) rfl rfl
      have retained := answering_retained
        ({ s.onRequest num 0x18 [a, b] with retained := s.retained.setTrim k v } : State) s [num, 0x00]
      refine ⟨_, ends, answered, ?_, fun j other => ?_, ?_, ?_, answering_settings ..,
        sameMechanism_answering.mpr ⟨rfl, rfl, rfl, rfl, rfl, rfl, rfl⟩,
        sameWork_answering.mpr ⟨rfl, rfl, rfl, rfl, rfl, rfl, rfl⟩⟩
      · exact (congrArg (Retained.trim · k) retained).trans (by cases k <;> rfl)
      · refine (congrArg (Retained.trim · j) retained).trans ?_
        cases k <;> cases j <;> first | rfl | exact absurd rfl other
      · exact (congrArg Retained.settings retained).trans (by cases k <;> rfl)
      · exact (congrArg Retained.words retained).trans (by cases k <;> rfl)
    next refused =>
      obtain ⟨t, ends, settings, answered, work, mechanism, _⟩ :=
        request_refused (c := .adjustStep num [a, b]) taken rfl
          ((onRequest_gateService adjust).trans ((doAdjustStep_of trim step).trans (if_neg refused)))
      exact ⟨t, ends, answered, settings, mechanism, work⟩

/-- A striking entry whose platen target is where the platen stands, with way to go for the wheel and the
carrier, begins both motions. -/
theorem beginPosition_moves {e : Entry} {x : Nat} {f : Bool} (kind : e.kind = .print)
    (flight : s.seq.inFlight = some ⟨s.platen.counter, f⟩) (rest : s.platen.move = none)
    (petal : s.wheel.angle ≠ petalAngle (e.petal.getD 0) s.retained.wheelPhase)
    (known : s.carrier.known = true) (goal : e.x = some x) (away : s.carrier.pos ≠ x) :
    s.beginPosition e = { s with
      seq := { s.seq with stage := some .position },
      wheel := { s.wheel with move := some (petalAngle (e.petal.getD 0) s.retained.wheelPhase) },
      carrier := { s.carrier with move := .moving x } } := by
  simp [State.beginPosition, flight, State.beginMotions, State.startPlaten, rest, kind,
    Entry.platenUpdate, Sequencer.afterPlaten, State.moveAcross, EntryKind.striking, State.startWheel,
    petal, goal, State.startCarrier, known, away, State.positionEnd, State.arrived]

/-- The leaving move begins where the carrier has way to go (R193). -/
theorem beginLeaving_moves (known : s.carrier.known = true)
    (away : s.carrier.pos ≠ target s.line.start s.retained.printOffset) : s.beginLeaving =
    { s with
      seq := { s.seq with leaving := true },
      carrier := { s.carrier with move := .moving (target s.line.start s.retained.printOffset) } } := by
  simp [State.beginLeaving, State.startCarrier, known, State.targetOf, away]

/-- The state a test strike takes its POSITION in: the strike in hand, its platen target where the platen
stands (R192). -/
def State.testing (pos : Nat) (code : Byte) (s : State) : State :=
  { s with seq := { s.seq with
      testStrike := some (s.testEntry pos code), inFlight := some ⟨s.platen.counter, false⟩ } }

/-- A test strike that passes its four checks begins POSITION (R192). -/
theorem doTestStrike_of {pos p : Nat} (onWheel : petal s.wheel.family code = some p)
    (noStrike : s.seq.testStrike = none) (notLeaving : s.seq.leaving = false)
    (noCause : s.noCauseForPrint = true) (testPos : s.seq.testPos = some pos)
    (fits : pos + s.glyphE code ≤ 1560) (known : s.wheel.known = true) : s.doTestStrike [code] =
      ((s.testing pos code).beginPosition (s.testEntry pos code)).answerDone := by
  simp [State.doTestStrike, State.petalOf, onWheel, noStrike, notLeaving, noCause, testPos,
    Config.rightEnd, Nat.not_lt.mpr fits, State.beginTest, known, State.testing]

/-- Settles O19: a test strike begins its motions, and the leaving move begins. -/
theorem testStrikeAndLeaveAdjust : Obligations.TestStrikeAndLeaveAdjust := by
  constructor
  · intro s num code pos p taken adjust onWheel noStrike notLeaving noCause testPos fits known petal
      carrierKnown away rest
    have acts := doTestStrike_of (s := s.onRequest num 0x19 [code]) onWheel noStrike notLeaving
      noCause testPos fits known
    have petal_eq : (s.testEntry pos code).petal = some p := by
      simp [State.testEntry, State.petalOf, onWheel]
    rw [beginPosition_moves (s := (s.onRequest num 0x19 [code]).testing pos code)
      (e := (s.onRequest num 0x19 [code]).testEntry pos code)
      (x := target pos s.retained.printOffset) rfl rfl rest
      (by change s.wheel.angle ≠ petalAngle ((s.testEntry pos code).petal.getD 0) _
          rw [petal_eq]; exact petal) carrierKnown rfl away] at acts
    obtain ⟨ends, answered⟩ := request_answered (c := .testStrike num [code]) taken rfl
      ((onRequest_gateService adjust).trans acts) rfl rfl
    refine ⟨_, s.testEntry pos code, ends, answered, ?_, rfl, petal_eq, rfl, rfl, ?_, ?_, ?_, ?_,
      answering_platen .., sameWork_answering.mpr ⟨rfl, rfl, rfl, rfl, rfl, rfl, rfl⟩,
      sameSettings_answering.mpr ⟨rfl, rfl⟩⟩
    · rw [answering_seq]; rfl
    · rw [answering_seq]
    · rw [answering_seq]; exact adjust
    · rw [answering_carrier]
    · rw [answering_wheel]
      change some (petalAngle ((s.testEntry pos code).petal.getD 0) _) = _
      rw [petal_eq]; rfl
  · intro s num taken adjust noStrike notLeaving known away
    have acts : (s.onRequest num 0x1A []).doLeaveAdjust [] =
        ((s.onRequest num 0x1A []).beginLeaving.sequence).answerDone := by
      simp [State.doLeaveAdjust, noStrike, notLeaving]
    rw [beginLeaving_moves (by exact known) (by exact away), sequence_off_boundary
      (by simp [State.atBoundary, adjust])] at acts
    obtain ⟨ends, answered⟩ := request_answered (c := .leaveAdjust num []) taken rfl
      ((onRequest_gateService adjust).trans acts) rfl rfl
    refine ⟨_, ends, answered, ?_, ?_, ?_, sameWork_answering.mpr
      ⟨rfl, rfl, rfl, rfl, rfl, rfl, rfl⟩, sameSettings_answering.mpr ⟨rfl, rfl⟩⟩
    · rw [answering_seq]; rfl
    · rw [answering_seq]; exact adjust
    · rw [answering_carrier]; rfl

/-! ## Gates (R178, R180, R181) -/

theorem exec_gatesAdjust (h : c ∈ [Instr.setMargins num args, .setTab num args, .clearTab num args,
      .clearTabs num args, .setPitch num args, .setSpacing num args, .setImpression num args,
      .setTypingMode num args, .setSpellMode num args, .setToneVolume num args,
      .addWordRequest num args, .removeWord num args, .enableNotices num args,
      .disableNotices num args, .writeTestPattern num args, .clearErrorLog num args,
      .readLine num args]) (s : State) :
    ∃ (code : Byte) (act : State → Acted), exec c s = .next (s.offerRequest num code args fun s => s.gateAdjust (act s)) := by
  simp only [List.mem_cons, List.not_mem_nil, or_false] at h
  rcases h with rfl | rfl | rfl | rfl | rfl | rfl | rfl | rfl | rfl | rfl | rfl | rfl | rfl | rfl |
    rfl | rfl | rfl <;> exact ⟨_, _, rfl⟩
theorem exec_gatesBoth (h : c ∈ [Instr.pauseRequest num args, .continueRequest num args,
      .resume num args, .enterAdjust num args]) (s : State) :
    ∃ (code : Byte) (act : State → Acted), exec c s = .next (s.offerRequest num code args fun s => s.gateBoth (act s)) := by
  simp only [List.mem_cons, List.not_mem_nil, or_false] at h
  rcases h with rfl | rfl | rfl | rfl <;> exact ⟨_, _, rfl⟩
theorem exec_gatesService (h : c ∈ [Instr.adjustStep num args, .testStrike num args,
      .leaveAdjust num args]) (s : State) :
    ∃ (code : Byte) (act : State → Acted), exec c s = .next (s.offerRequest num code args fun s => s.gateService (act s)) := by
  simp only [List.mem_cons, List.not_mem_nil, or_false] at h
  rcases h with rfl | rfl | rfl <;> exact ⟨_, _, rfl⟩
/-- Every listed request is offered to the slot. -/
theorem exec_offers (h : c ∈ [Instr.setMargins num args, .setTab num args, .clearTab num args,
      .clearTabs num args, .setPitch num args, .setSpacing num args, .setImpression num args,
      .setTypingMode num args, .setSpellMode num args, .setToneVolume num args,
      .addWordRequest num args, .removeWord num args, .enableNotices num args,
      .disableNotices num args, .readPage num args, .writeTestPattern num args,
      .clearErrorLog num args, .readLine num args, .pauseRequest num args,
      .continueRequest num args, .resume num args, .restart num args, .soundTone num args,
      .enterAdjust num args, .adjustStep num args, .testStrike num args,
      .leaveAdjust num args]) (s : State) :
    ∃ (code : Byte) (act : State → Acted), exec c s = .next (s.offerRequest num code args act) := by
  simp only [List.mem_cons, List.not_mem_nil, or_false] at h
  rcases h with rfl | rfl | rfl | rfl | rfl | rfl | rfl | rfl | rfl | rfl | rfl | rfl | rfl | rfl |
    rfl | rfl | rfl | rfl | rfl | rfl | rfl | rfl | rfl | rfl | rfl | rfl | rfl <;> exact ⟨_, _, rfl⟩
theorem exec_unlisted (h : listedCode code = false) (s : State) :
    exec (.unknownRequestCode num code args) s =
      .next (s.offerRequest num code args fun s => s.gateAdjust (s.answer .unknown)) := by
  change Host.Outcome.next (if listedCode code = true then _ else _) = _
  simp [h]

/-- A request that finds the slot busy leaves a BUSY answer where none waits (R178). -/
theorem offerRequest_busy {q : SlotRequest} (live : s.live = true) (receiver : s.link.receiver ≠ .resync)
    (length : args.length ≤ 46) (slot : s.link.slot = some q) : s.offerRequest num code args act =
      (let t := s.takeFrame 0x03 (num :: code :: args)
       ({ t with link := { t.link with
          busyAnswer := some (t.link.busyAnswer.getD num) } } : State).finish s) := by
  have receiving : s.receiving = true := by simp [State.receiving, live, receiver]
  have good : goodRequest args = true := by simp [goodRequest, length]
  have busy : (s.takeFrame 0x03 (num :: code :: args)).link.slot = some q := slot
  simp only [State.offerRequest, receiving, good, busy]
  rfl

/-- Settles O20: one argument for each gate, and one for the busy slot. -/
theorem requestsAreGatedOneAtATime : Obligations.RequestsAreGatedOneAtATime := by
  constructor
  · intro s num code args c r taken gated
    have refuses {code : Byte} {act : State → Acted} {q : Result}
        (run : exec c s = .next (s.offerRequest num code args act))
        (acts : act (s.onRequest num code args) = (s.onRequest num code args).answer q) :
        ∃ t, exec c s = .next t ∧ s.answered t [num, byteOf q.number] ∧ s.sameMechanism t ∧
          s.sameWork t ∧ s.sameSettings t ∧ t.tone = s.tone :=
      request_unchanged taken run acts
    obtain ⟨rfl, unlisted, rfl⟩ | ⟨gate, starting, rfl⟩ | ⟨gate, starting, adjust, rfl⟩ |
      ⟨gate, adjust, rfl⟩ := gated
    · have run := exec_unlisted (num := num) (args := args) unlisted s
      split
      next adjust => exact refuses (q := .badState) run (gateAdjust_adjust adjust)
      next adjust => exact refuses (q := .unknown) run (onRequest_gateAdjust adjust)
    · obtain gate | gate := List.mem_append.mp (show c ∈ [Instr.pauseRequest num args,
          .continueRequest num args, .resume num args, .enterAdjust num args] ++
          [.adjustStep num args, .testStrike num args, .leaveAdjust num args] from gate)
      · obtain ⟨code, act, run⟩ := exec_gatesBoth gate s
        exact refuses (q := .notReady) run (gateBoth_starting starting)
      · obtain ⟨code, act, run⟩ := exec_gatesService gate s
        exact refuses (q := .notReady) run (gateService_starting starting)
    · obtain ⟨code, act, run⟩ := exec_gatesService gate s
      exact refuses (q := .badState) run (gateService_of_ne starting adjust)
    · obtain gate | gate := List.mem_append.mp (show c ∈ [Instr.setMargins num args,
          .setTab num args, .clearTab num args, .clearTabs num args, .setPitch num args,
          .setSpacing num args, .setImpression num args, .setTypingMode num args,
          .setSpellMode num args, .setToneVolume num args, .addWordRequest num args,
          .removeWord num args, .enableNotices num args, .disableNotices num args,
          .writeTestPattern num args, .clearErrorLog num args, .readLine num args] ++
          [.pauseRequest num args, .continueRequest num args, .resume num args,
            .enterAdjust num args] from gate)
      · obtain ⟨code, act, run⟩ := exec_gatesAdjust gate s
        exact refuses (q := .badState) run (gateAdjust_adjust adjust)
      · obtain ⟨code, act, run⟩ := exec_gatesBoth gate s
        exact refuses (q := .badState) run (gateBoth_adjust adjust)
  · intro s num code args c q live receiver length slot ⟨w, f, sending⟩ request
    have offered : ∃ (code : Byte) (act : State → Acted),
        exec c s = .next (s.offerRequest num code args act) := by
      obtain ⟨rfl, unlisted⟩ | listed := request
      · exact ⟨_, _, exec_unlisted unlisted s⟩
      · exact exec_offers listed s
    obtain ⟨code, act, run⟩ := offered
    rw [offerRequest_busy live receiver length slot] at run
    have ends := finish_link_of_sending (o := s) (u := { s.takeFrame 0x03 (num :: code :: args) with
      link := { (s.takeFrame 0x03 (num :: code :: args)).link with
        busyAnswer := some (s.link.busyAnswer.getD num) } }) (by exact sending)
    obtain ⟨link, notices⟩ := ends
    exact ⟨_, run, (congrArg Link.slot link).trans slot, (congrArg Link.slotAnswer link).trans rfl,
      (congrArg Link.busyAnswer link).trans rfl, sameMechanism_finish.mpr ⟨rfl, rfl, rfl, rfl, rfl, rfl, rfl⟩,
      sameWork_finish.mpr ⟨rfl, rfl, rfl, rfl, rfl, rfl, rfl⟩, sameSettings_finish.mpr ⟨rfl, rfl⟩,
      finish_tone .., notices⟩

end Sys2Proof.Machine
end

section
/-! Proofs about the Link Port: how the bytes of a frame are judged, what a frame in error leaves, and the
transmitter's choice (R173, R174, R178, R179, R184). -/

namespace Sys2Proof.Machine

variable {s : State} {h : FrameInHand} {k l c : Byte} {p : List Byte} {rest : List RxByte}

/-! ## The judgement of a frame (R173) -/

/-- A byte with its stop bit high. -/
def gotByte (b : Byte) : RxByte := ⟨b, false⟩

theorem byteOf_add (n : Nat) (b : Byte) : byteOf n + b = byteOf (n + b.toNat) := by
  apply BitVec.eq_of_toNat_eq
  simp [byteOf]

theorem isFrameKind_iff : isFrameKind k = true ↔ k = 0x01 ∨ k = 0x02 ∨ k = 0x03 := by
  simp [isFrameKind, or_assoc]

theorem badLength_iff : badLength k l = false ↔ l.toNat ≤ 48 ∧ (k = 0x01 → l.toNat = 2) ∧
    (k = 0x02 → l.toNat ≠ 0) ∧ (k = 0x03 → 2 ≤ l.toNat) := by
  simp only [badLength, Bool.or_eq_false_iff, Bool.and_eq_false_iff, decide_eq_false_iff_not]
  constructor
  · rintro ⟨⟨⟨a, b⟩, c⟩, d⟩
    exact ⟨by omega, fun e => by simpa [e] using b, fun e => by simpa [e] using c,
      fun e => Nat.succ_le_of_lt (by simpa [e] using d)⟩
  · rintro ⟨a, b, c, d⟩
    refine ⟨⟨⟨by omega, ?_⟩, ?_⟩, ?_⟩
    · exact (em (k = 0x01)).symm.imp_right fun e => not_not.mpr (b e)
    · exact (em (k = 0x02)).symm.imp_right c
    · exact (em (k = 0x03)).symm.imp_right fun e => Nat.not_lt.mpr (d e)

/-- The kind of a frame is judged first. -/
theorem judge_kind : judge (gotByte k :: rest) =
    if isFrameKind k then judgeFrom ⟨some k, none, []⟩ (byteOf k.toNat) rest
    else .error .kind ⟨some k, none, []⟩ rest := by
  simp [judge, judgeFrom, gotByte, FrameInHand.put, byteOf]

/-- Then its length. -/
theorem judgeFrom_length (n : Nat) : judgeFrom ⟨some k, none, []⟩ (byteOf n) (gotByte l :: rest) =
    if badLength k l then .error .length ⟨some k, some l, []⟩ rest
    else judgeFrom ⟨some k, some l, []⟩ (byteOf (n + l.toNat)) rest := by
  rw [← byteOf_add]
  rfl

/-- Bytes that fit the length join the payload. -/
theorem judgeFrom_payload (n : Nat) (q : List Byte) (fits : q.length + p.length ≤ l.toNat) :
    judgeFrom ⟨some k, some l, q⟩ (byteOf n) (p.map gotByte ++ rest) =
      judgeFrom ⟨some k, some l, q ++ p⟩ (byteOf (n + (p.map (·.toNat)).sum)) rest := by
  induction p generalizing n q with
  | nil => simp
  | cons b p ih =>
    simp only [List.length_cons] at fits
    have room : q.length < l.toNat := by omega
    have next := ih (n + b.toNat) (q ++ [b]) (by simp; omega)
    simp only [List.append_assoc, List.singleton_append] at next
    simp only [List.map_cons, List.cons_append, List.sum_cons, ← Nat.add_assoc, ← next, ← byteOf_add]
    simp [judgeFrom, gotByte, room, FrameInHand.put]

/-- The check byte makes the 8-bit sum 0 (R173). -/
theorem judgeFrom_check (n : Nat) (whole : p.length = l.toNat) :
    judgeFrom ⟨some k, some l, p⟩ (byteOf n) (gotByte c :: rest) =
      if (n + c.toNat) % 256 = 0 then .good ⟨some k, some l, p⟩ rest
      else .error .check ⟨some k, some l, p⟩ rest := by
  have zero : byteOf n + c = 0#8 ↔ (n + c.toNat) % 256 = 0 := by
    rw [byteOf_add, ← BitVec.toNat_inj]
    simp [byteOf]
  simp [judgeFrom, gotByte, whole, zero]

/-- Bytes that do not end a frame hand on what they put in hand. -/
theorem judgeFrom_append {early : List RxByte} {h' : FrameInHand} {sum : Byte}
    (incomplete : judgeFrom h sum early = .incomplete h') :
    ∃ sum', judgeFrom h sum (early ++ rest) = judgeFrom h' sum' rest := by
  induction early generalizing h sum with
  | nil =>
    obtain rfl : h = h' := by simpa [judgeFrom] using incomplete
    exact ⟨sum, rfl⟩
  | cons b early ih =>
    simp only [List.cons_append]
    rw [judgeFrom] at incomplete ⊢
    repeat' split at incomplete
    all_goals simp_all

/-- A byte with its stop bit low ends the frame. -/
theorem judgeFrom_stop (h : FrameInHand) (sum v : Byte) :
    judgeFrom h sum (⟨v, true⟩ :: rest) = .error .stop (h.put v) rest := by
  simp [judgeFrom]

/-! ## A frame in error (R174) -/

/-- What a frame in error leaves. -/
theorem frameFails_leaves (err : FrameErr) (h : FrameInHand) :
    let t := (s.frameFails err h).finish s
    t.link.errorLog =
      some (s.link.errorLog.getD ⟨err, h.kind, h.length, h.payload.take 8⟩) ∧
    t.link.errorCount = min 255 (s.link.errorCount + 1) ∧ t.link.alertLow = true ∧
    t.link.receiver = .resync ∧
    (s.frameFails err h).notices.rows.frameError =
      s.notices.rows.frameError.occur [byteOf err.number, byteOf t.link.errorCount] ∧
    s.sameMechanism t ∧ s.sameWork t ∧ s.sameSettings t ∧ t.tone = s.tone ∧
    t.link.slot = s.link.slot ∧ t.link.busyLine = s.link.busyLine := by
  intro t
  refine ⟨finish_errorLog .., finish_errorCount .., finish_alertLow .., finish_receiver .., ?_,
    sameMechanism_finish.mpr ⟨rfl, rfl, rfl, rfl, rfl, rfl, rfl⟩,
    sameWork_finish.mpr ⟨rfl, rfl, rfl, rfl, rfl, rfl, rfl⟩, sameSettings_finish.mpr ⟨rfl, rfl⟩,
    finish_tone .., finish_slot .., finish_busyLine ..⟩
  rw [finish_errorCount]
  rfl

/-- Settles O8: the bytes are judged one at a time, and both errors leave what `State.frameFails` leaves. -/
theorem frameInErrorIsLoggedUntilIdle : Obligations.FrameInErrorIsLoggedUntilIdle := by
  refine ⟨fun s c rx err h receiving found => ⟨_, s.frameFails err h, ?_, rfl, frameFails_leaves err h⟩,
    fun s => ⟨rfl, fun live resync => ?_⟩, fun k l c p rest => ?_, fun early rest h v incomplete => ?_⟩
  · obtain ⟨rfl, judged⟩ | ⟨rfl, rfl, judged⟩ := found
    · change Host.Outcome.next (if s.receiving = true then _ else _) = _
      rw [if_pos receiving, judged]
    · change Host.Outcome.next (if s.receiving = true then _ else _) = _
      rw [if_pos receiving, judged]
  · change Host.Outcome.next (if _ then _ else _) = _
    simp [live, resync]
  · intro got kindGood lengthGood
    have cons (b : Byte) (bs) : got (b :: bs) = gotByte b :: bs.map gotByte := rfl
    have kind (good : kindGood) : isFrameKind k = true := isFrameKind_iff.mpr good
    have length (good : lengthGood) : badLength k l = false := badLength_iff.mpr good
    refine ⟨fun bad => ?_, fun good => ?_, fun good bad => ?_, fun good fit short => ?_,
      fun good fit whole => ?_⟩
    · rw [cons]
      exact judge_kind.trans (if_neg fun h => bad (isFrameKind_iff.mp h))
    · rw [cons]
      exact judge_kind.trans (if_pos (kind good))
    · have wrong : badLength k l = true := by
        by_contra h
        exact bad (badLength_iff.mp (by simpa using h))
      exact (judge_kind.trans (if_pos (kind good))).trans
        ((judgeFrom_length _).trans (if_pos wrong))
    · have payload := judgeFrom_payload (k := k) (p := p) (rest := []) (k.toNat + l.toNat) []
        (by simpa using short)
      rw [cons, judge_kind, if_pos (kind good), List.map_cons, judgeFrom_length,
        if_neg (by simp [length fit])]
      simpa [judgeFrom] using payload
    · have payload := judgeFrom_payload (k := k) (p := p) (rest := gotByte c :: rest)
        (k.toNat + l.toNat) [] (l := l) (by simp [whole])
      rw [List.nil_append, judgeFrom_check _ whole] at payload
      rw [← payload]
      have split : got (k :: l :: p ++ [c]) ++ rest =
        gotByte k :: gotByte l :: (p.map gotByte ++ gotByte c :: rest) := by
          change gotByte k :: gotByte l :: ((p ++ [c]).map gotByte ++ rest) = _
          simp
      rw [split, judge_kind, if_pos (kind good), judgeFrom_length, if_neg (by simp [length fit])]
  · obtain ⟨sum, judged⟩ := judgeFrom_append (rest := ⟨v, true⟩ :: rest) incomplete
    exact ⟨_, judged.trans (judgeFrom_stop h sum v)⟩

/-! ## The transmitter's choice (R178, R179, R184) -/

/-- How far the scan is from the last kind sent when it comes to a kind. -/
def scanPlace (last k : NoticeKind) : Nat := (k.number + 13 - last.number) % 14

theorem kindsAfter_pairwise (last : NoticeKind) :
    (kindsAfter last).Pairwise fun a b => scanPlace last a ≤ scanPlace last b := by
  cases last <;> decide
theorem mem_kindsAfter (last k : NoticeKind) : k ∈ kindsAfter last := by
  cases last <;> cases k <;> decide

/-- The first member of an ordered list that is wanted comes no later than any other that is. -/
theorem find_first {α : Type} {r : α → α → Prop} {wanted : α → Bool} {l : List α} {a b : α}
    (refl : r a a) (order : l.Pairwise r) (found : l.find? wanted = some a) (mem : b ∈ l)
    (want : wanted b = true) : r a b := by
  obtain ⟨_, before, after, rfl, skipped⟩ := List.find?_eq_some_iff_append.mp found
  rcases List.mem_append.mp mem with early | late
  · exact absurd want (by simpa using skipped b early)
  · obtain rfl | late := List.mem_cons.mp late
    · exact refl
    · exact (List.pairwise_cons.mp (List.pairwise_append.mp order).2.1).1 b late

/-- What the transmitter's choice leaves, and what it sends. -/
theorem chooseFrame_sends (s : State) :
    s.sameMechanism s.chooseFrame ∧ s.sameWork s.chooseFrame ∧ s.sameSettings s.chooseFrame ∧
      s.chooseFrame.link.slot = s.link.slot ∧
      match s.link.slotAnswer, s.link.busyAnswer, s.notices.choose with
      | some p, _, _ =>
        s.chooseFrame.link.transmitter = .sending .answer (frameBytes 0x81 p) ∧
          s.chooseFrame.link.slotAnswer = none
      | none, some n, _ =>
        s.chooseFrame.link.transmitter = .sending .busy (frameBytes 0x81 [n, 0x01]) ∧
          s.chooseFrame.link.busyAnswer = none
      | none, none, some k =>
        let r := s.notices.rows.row k
        s.chooseFrame.link.transmitter = .sending (.notice k)
            (frameBytes 0x82 (byteOf k.number :: byteOf r.count :: r.data)) ∧
          s.chooseFrame.notices.last = k ∧
          s.chooseFrame.notices.rows = s.notices.rows.setRow k { r with raised := false, count := 0 }
      | none, none, none =>
        s.chooseFrame.link.transmitter = .idle ∧ s.chooseFrame.notices = s.notices := by
  unfold State.chooseFrame
  cases s.link.slotAnswer with
  | some p => exact ⟨⟨rfl, rfl, rfl, rfl, rfl, rfl, rfl⟩, ⟨rfl, rfl, rfl, rfl, rfl, rfl, rfl⟩,
      ⟨rfl, rfl⟩, rfl, rfl, rfl⟩
  | none =>
    cases s.link.busyAnswer with
    | some n => exact ⟨⟨rfl, rfl, rfl, rfl, rfl, rfl, rfl⟩, ⟨rfl, rfl, rfl, rfl, rfl, rfl, rfl⟩,
        ⟨rfl, rfl⟩, rfl, rfl, rfl⟩
    | none =>
      cases s.notices.choose with
      | some k => exact ⟨⟨rfl, rfl, rfl, rfl, rfl, rfl, rfl⟩, ⟨rfl, rfl, rfl, rfl, rfl, rfl, rfl⟩,
          ⟨rfl, rfl⟩, rfl, rfl, rfl, rfl⟩
      | none => exact ⟨⟨rfl, rfl, rfl, rfl, rfl, rfl, rfl⟩, ⟨rfl, rfl, rfl, rfl, rfl, rfl, rfl⟩,
          ⟨rfl, rfl⟩, rfl, rfl, rfl⟩

/-- Settles O9: the answer's last byte frees the slot, and the choice follows R179's order. -/
theorem transmitterChoosesByScan : Obligations.TransmitterChoosesByScan := by
  constructor
  · intro s w f live sending freed
    by_cases answer : w = .answer
    · subst answer
      obtain ⟨n, slot⟩ := freed rfl
      have ends : exec .transmitComplete s =
          .next ({ s with link := { s.link with slot := none } } : State).chooseFrame := by
        change execTransmitComplete s = _
        simp [execTransmitComplete, live, sending, slot]
      obtain ⟨mechanism, work, settings, slot, sends⟩ :=
        chooseFrame_sends { s with link := { s.link with slot := none } }
      exact ⟨_, ends, mechanism, work, settings, by rw [slot, if_pos rfl], sends⟩
    · have ends : exec .transmitComplete s = .next s.chooseFrame := by
        change execTransmitComplete s = _
        cases w <;> simp_all [execTransmitComplete]
      obtain ⟨mechanism, work, settings, slot, sends⟩ := chooseFrame_sends s
      exact ⟨_, ends, mechanism, work, settings, by rw [slot, if_neg answer], sends⟩
  · intro t wanted place
    cases chosen : t.choose with
    | some k =>
      exact ⟨List.find?_some chosen, fun j want => find_first
        (r := fun a b => place a ≤ place b) (le_refl _) (kindsAfter_pairwise t.last)
        chosen (mem_kindsAfter t.last j) want⟩
    | none =>
      intro j
      simpa [wanted] using List.find?_eq_none.mp chosen j (mem_kindsAfter t.last j)

end Sys2Proof.Machine
end

section
/-! Proofs about the keys that set, move or are refused: attributes, formats, layout, the half-line and index
keys, RETURN, the cursor keys, and the refusals (R15, R16, R22, R25, R33, R37, R40 to R44, R46, R47). -/

namespace Sys2Proof.Machine

variable {s u v : State} {k : KeyKind} {e : KeyEntry} {c : Instr} {act : State → Option State}

/-! ## Keys that are taken -/

/-- A key that is taken and acts ends its event with what it does. -/
theorem exec_takes {act : KeyEntry → State → Option State}
    (run : exec c s = .next (s.examine k act)) (taken : s.takesKey k e)
    (acts : act e s.takeHead = some u) : exec c s = .next (u.conclude s) := by
  rw [run, examine_takes taken acts]

/-- A printing, layout or line-moving key outside RETURN_WAIT acts on the state of `State.acting`. -/
theorem exec_acts {act : KeyEntry → State → Option State}
    (run : exec c s = .next (s.examine k fun e t => t.onNewLine e (act e))) (taken : s.takesKey k e)
    (state : s.line.state ≠ .returnWait) (acts : act e s.acting = some u) :
    exec c s = .next (u.conclude s) :=
  exec_takes run taken ((onNewLine_acting e (act e) state).trans acts)

/-- In RETURN_WAIT such a key clicks and raises KEY_LOST. -/
theorem exec_refuses {act : KeyEntry → State → Option State}
    (run : exec c s = .next (s.examine k fun e t => t.onNewLine e (act e))) (taken : s.takesKey k e)
    (state : s.line.state = .returnWait) :
    exec c s = .next (((s.takeHead.requestTone .click false).raise .keyLost
      [2, e.code, byteOf e.source.number]).conclude s) :=
  exec_takes run taken (onNewLine_wait e (act e) state)

theorem acting_open (state : s.line.state = .open) : s.acting = s.takeHead := by
  simp [State.acting, state]
theorem acting_returned (state : s.line.state = .returned) : s.acting = s.takeHead.nextLine := by
  simp [State.acting, state]

/-- The kept fields of the state a key acts on, at the end of its event. -/
theorem conclude_text (u o : State) : (u.conclude o).text.bold = u.text.bold ∧
    (u.conclude o).text.underline = u.text.underline := by
  obtain ⟨tr, sa, ba, kept⟩ := conclude_kept u o
  simp only [State.kept, Kept.mk.injEq] at kept
  obtain ⟨_, _, _, _, _, _, _, bold, underline, _⟩ := kept
  exact ⟨bold, underline⟩

/-! ## Attributes, formats and margin release (R37, R42) -/

/-- Settles O21: the keys act on the line as `onNewLine` gives it. -/
theorem attributeAndFormatKeys : Obligations.AttributeAndFormatKeys := by
  refine ⟨fun s e => ⟨fun taken => ?_, fun taken => ?_⟩,
    fun s e k c taken state => ⟨fun f keyed => ?_, fun keyed => ?_⟩⟩
  · let u : State := { s.takeHead with text := { s.takeHead.text with bold := !s.text.bold } }
    obtain ⟨keys, settings, retained, _⟩ := conclude_leaves u s
    obtain ⟨bold, underline⟩ := conclude_text u s
    exact ⟨_, exec_takes (u := u) rfl taken rfl, bold, underline, keys, settings, retained⟩
  · let u : State :=
      { s.takeHead with text := { s.takeHead.text with underline := !s.text.underline } }
    obtain ⟨keys, settings, retained, _⟩ := conclude_leaves u s
    obtain ⟨bold, underline⟩ := conclude_text u s
    exact ⟨_, exec_takes (u := u) rfl taken rfl, underline, bold, keys, settings, retained⟩
  · have formats : ∃ u, (s.acting).setFormat f = some u ∧
        if s.acting.line.cells = [] then u = { s.acting with
          line := { s.acting.line with format := f } }
        else u = s.acting.requestTone .click false := by
      unfold State.setFormat
      by_cases empty : s.acting.line.cells = []
      · simp [empty]
      · simp [empty, State.click]
    obtain ⟨u, acts, result⟩ := formats
    obtain ⟨rfl, rfl, rfl⟩ | ⟨rfl, rfl, rfl⟩ := keyed
    · exact ⟨u, exec_acts rfl taken state acts, result⟩
    · exact ⟨u, exec_acts rfl taken state acts, result⟩
  · subst keyed
    exact ⟨_, exec_acts rfl taken state rfl, rfl⟩

/-! ## Layout keys (R43, R44) -/

theorem stopAllowed_iff {tabs : List Nat} {x : Nat} :
    stopAllowed tabs x = true ↔ tabs.length < 16 ∧ x ∉ tabs ∧ x ≠ 1560 := by
  rw [stopAllowed, Bool.and_eq_true, Bool.and_eq_true, decide_eq_true_eq, decide_eq_true_eq,
    and_assoc, Config.tabPlaces, Config.rightEnd]
  simp

/-- What a layout key's event ends with: its setting written where its check passes, else as it was. -/
theorem setOrClick_ends (taken : s.takesKey k e) (state : s.line.state ≠ .returnWait)
    {ok : Bool} {f : Settings → Settings}
    (run : exec c s = .next (s.examine k fun e t => t.onNewLine e act))
    (acts : act s.acting = s.acting.setOrClick ok f) :
    ∃ t, exec c s = .next t ∧ s.setBy (if ok then f else id) t ∧ t.keys = s.keys.tail := by
  refine ⟨_, exec_acts (act := fun _ => act) run taken state acts, ?_, ?_⟩
  · obtain ⟨_, settings, retained, _⟩ :=
      conclude_leaves (if ok = true then s.acting.writeSettings f else s.acting.click) s
    refine ⟨settings.trans ?_, retained.trans ?_⟩
    · cases ok
      · exact acting_settings s
      · exact congrArg f (acting_settings s)
    · cases ok
      · exact acting_retained s
      · simp [State.writeSettings]
  · obtain ⟨keys, _⟩ :=
      conclude_leaves (if ok = true then s.acting.writeSettings f else s.acting.click) s
    refine keys.trans ?_
    cases ok <;> exact acting_keys s

/-- A layout key's two outcomes, by its check. -/
theorem setOrClick_cases (taken : s.takesKey k e) (state : s.line.state ≠ .returnWait)
    {ok : Bool} {p : Prop} [Decidable p] {f : Settings → Settings} (check : ok = true ↔ p)
    (run : exec c s = .next (s.examine k fun e t => t.onNewLine e act))
    (acts : act s.acting = s.acting.setOrClick ok f) :
    if p then ∃ t, exec c s = .next t ∧ s.setBy f t ∧ t.keys = s.keys.tail
    else ∃ t, exec c s = .next t ∧ s.setBy id t ∧ t.keys = s.keys.tail := by
  have ends := setOrClick_ends taken state run acts
  split
  next holds => simpa [check.mpr holds] using ends
  next fails =>
    have : ok = false := by simpa using mt check.mp fails
    simpa [this] using ends

/-- Settles O22: each key's check is R43's or R44's, on the settings of the event. -/
theorem layoutKeysSet : Obligations.LayoutKeysSet := by
  intro s e state x l r tabs sets
  refine ⟨fun taken => ?_, fun taken => ?_, fun taken => ?_, fun taken => ?_⟩
  · refine setOrClick_cases taken state (f := fun q => { q with left := x }) ?_ rfl rfl
    rw [acting_settings]
    exact marginsOk_iff
  · refine setOrClick_cases taken state (f := fun q => { q with right := x }) ?_ rfl rfl
    rw [acting_settings]
    exact marginsOk_iff
  · refine setOrClick_cases taken state (f := fun q => { q with tabs := insertStop x q.tabs }) ?_
      rfl rfl
    rw [acting_settings]
    exact stopAllowed_iff
  · refine setOrClick_cases taken state (f := fun q => { q with tabs := q.tabs.filter (· ≠ x) }) ?_
      rfl rfl
    rw [acting_settings]
    simp [x, tabs]

/-! ## INDEX and REVERSE_INDEX as they are examined (R46) -/

/-- What INDEX or REVERSE_INDEX does once it is taken up (R46). -/
def State.indexKey (sign : Int) (e : KeyEntry) (t : State) : Option State :=
  match t.line.state with
  | .returnWait => some (t.refuseLost e)
  | .returned => t.indexOn sign
  | .open =>
    if t.line.settled then (if t.line.run.isNone then t.indexOn sign else none)
    else if t.effMode = .hold && t.pendingHeldWord then some (t.refuseLost e)
    else none

theorem indexKey_wait (sign : Int) (state : s.line.state = .returnWait) :
    s.takeHead.indexKey sign e = some (s.takeHead.refuseLost e) := by
  simp [State.indexKey, state]
theorem indexKey_returned (sign : Int) (state : s.line.state = .returned) :
    s.takeHead.indexKey sign e = s.takeHead.indexOn sign := by
  simp [State.indexKey, state]
theorem indexKey_settled (sign : Int) (state : s.line.state = .open) (settled : s.line.settled = true)
    (rest : s.line.run = none) : s.takeHead.indexKey sign e = s.takeHead.indexOn sign := by
  simp [State.indexKey, state, settled, rest]

/-- Outside an OPEN line with PENDING cells the key is examined like any other. -/
theorem exec_index (settled : s.line.state = .open → s.line.settled = true) :
    exec .index s = .next (s.examine .index (State.indexKey 1)) := by
  have stays : s.endsForIndex .index = false := by
    by_cases state : s.line.state = .open <;> simp [State.endsForIndex, state, settled]
  change Host.Outcome.next (if s.endsForIndex .index = true then _ else _) = _
  rw [stays]
  rfl
theorem exec_reverseIndex (settled : s.line.state = .open → s.line.settled = true) :
    exec .reverseIndex s = .next (s.examine .reverseIndex (State.indexKey (-1))) := by
  have stays : s.endsForIndex .reverseIndex = false := by
    by_cases state : s.line.state = .open <;> simp [State.endsForIndex, state, settled]
  change Host.Outcome.next (if s.endsForIndex .reverseIndex = true then _ else _) = _
  rw [stays]
  rfl

/-! ## Refused keys (R22, R25, R26) -/

theorem liftingAtCursor_atEnd {l : Line} (h : l.cells.length ≤ l.cursor) :
    l.liftingAtCursor = false := by
  simp [Line.liftingAtCursor, h]
theorem place_atEnd {l : Line} (h : l.cells.length ≤ l.cursor) : l.place = .atEnd := by
  simp [Line.place, h]

/-- Settles O25: each key is taken and refused before anything is written. -/
theorem refusedKeysClick : Obligations.RefusedKeysClick := by
  intro s e clicks
  refine ⟨fun taken => exec_takes rfl taken rfl, fun taken state atEnd lacks => ?_,
    fun taken state atEnd none => ?_, fun state => ⟨fun taken => ?_, fun taken => ?_, fun taken => ?_⟩,
    fun k c taken state listed => ?_⟩
  · refine exec_acts rfl taken (by simp [state]) ?_
    rw [acting_open state]
    have resting := liftingAtCursor_atEnd (l := s.takeHead.line) (le_of_eq atEnd.symm)
    have missing : s.takeHead.petalOf e.code = none := lacks
    change (if _ then _ else _) = _
    rw [resting]
    simp only [missing, Option.isNone_none, State.click]
    rfl
  · refine exec_acts rfl taken (by simp [state]) ?_
    rw [acting_open state]
    have resting := liftingAtCursor_atEnd (l := s.takeHead.line) (le_of_eq atEnd.symm)
    have place := place_atEnd (l := s.takeHead.line) (le_of_eq atEnd.symm)
    have stop : s.takeHead.findStop s.takeHead.line.endPos = .none := none
    simp only [State.tabOn, resting, place, stop, State.click]
    rfl
  · exact exec_takes rfl taken (if_pos state)
  · exact exec_takes rfl taken (if_pos state)
  · exact exec_takes rfl taken (if_pos state)
  · simp only [List.mem_cons, Prod.mk.injEq, List.not_mem_nil, or_false] at listed
    obtain ⟨rfl, rfl⟩ | ⟨rfl, rfl⟩ | ⟨rfl, rfl⟩ | ⟨rfl, rfl⟩ | ⟨rfl, rfl⟩ | ⟨rfl, rfl⟩ | ⟨rfl, rfl⟩ |
      ⟨rfl, rfl⟩ | ⟨rfl, rfl⟩ | ⟨rfl, rfl⟩ | ⟨rfl, rfl⟩ | ⟨rfl, rfl⟩ | ⟨rfl, rfl⟩ | ⟨rfl, rfl⟩ |
      ⟨rfl, rfl⟩ | ⟨rfl, rfl⟩ := listed
    case inr.inr.inr.inr.inr.inl =>
      exact exec_takes (exec_index (by simp [state])) taken (indexKey_wait 1 state)
    case inr.inr.inr.inr.inr.inr.inl =>
      exact exec_takes (exec_reverseIndex (by simp [state])) taken (indexKey_wait (-1) state)
    all_goals exact exec_refuses rfl taken state

/-! ## HALF_UP and HALF_DOWN (R47) -/

/-- An entry as a group of its own, with its identity and both marks. -/
def Entry.alone (d : Entry) (id : Nat) : Entry := { d with id := id, first := true, last := true }

/-- A motion entry with room joins the tail as a group of its own. -/
theorem appendGroup_one {d : Entry} (room : 1 ≤ s.strikeFree) : s.appendGroup [d] =
    { s with strikes := ⟨s.strikes.entries ++ [d.alone s.strikes.nextId], s.strikes.nextId + 1⟩ } := by
  have fits : s.strikes.entries.length + [d].length ≤ 32 := by
    simp only [State.strikeFree, Config.strikePlaces] at room
    simp
    omega
  rw [appendGroup_fits fits]
  rfl

theorem withRoom_eq {d : Entry} (room : 1 ≤ s.strikeFree) : s.withRoom d =
    some { s with strikes := ⟨s.strikes.entries ++ [d.alone s.strikes.nextId],
      s.strikes.nextId + 1⟩ } := by
  rw [← appendGroup_one room]
  exact if_pos room

/-- Settles O28: v stays within its range, and the FEED follows it. -/
theorem halfLineKeysMoveV : Obligations.HalfLineKeysMoveV := by
  intro s e down taken state v d c
  have run : ∀ u, v.halfLine d = some u → exec c s = .next (u.conclude s) := by
    intro u acts
    cases down
    · exact exec_acts rfl taken state acts
    · exact exec_acts rfl taken state acts
  split
  next fits =>
    intro room
    have room : 1 ≤ ({ v with line := { v.line with v := v.line.v + d } } : State).strikeFree := room
    exact ⟨_, run _ ((if_pos fits).trans (withRoom_eq room)), rfl, ⟨_, rfl, rfl, rfl, rfl⟩,
      ⟨rfl, rfl, rfl, rfl, rfl, rfl, rfl⟩, ⟨rfl, rfl⟩, acting_keys s⟩
  next past => exact run _ (if_neg past)

/-! ## INDEX and REVERSE_INDEX (R46) -/

/-- The line that INDEX leaves: the next at its end, or the next line at the margin after a RETURNED one
(R46). -/
def State.indexed (s : State) : State := if s.line.state = .returned then s.nextLine else s.indexLine

/-- What INDEX leaves: the entries' cell references are taken off, and all but the line, the Text Engine, the
Spelling Unit and the display stays (R18, R19). -/
theorem indexed_eq (s : State) : ∃ t p d, s.indexed = { s with
    line := .opened (if s.line.state = .returned then s.settings.left else s.line.endPos)
      (if s.line.state = .returned then 0 else s.line.v) s.settings.format,
    strikes := { s.strikes with entries := s.strikes.entries.map fun d => { d with cell := none } },
    text := t, spell := p, display := d } := by
  unfold State.indexed
  split <;> exact ⟨_, _, _, rfl⟩

/-- INDEX with room appends the FEED to the queue of the line it leaves (R46). -/
theorem indexOn_feeds (sign : Int) (room : 1 ≤ s.strikeFree) : ∃ u, s.indexOn sign = some u ∧
    u.line = .opened (if s.line.state = .returned then s.settings.left else s.line.endPos)
      (if s.line.state = .returned then 0 else s.line.v) s.settings.format ∧
    (∃ f : Entry, u.strikes.entries =
        (s.strikes.entries.map fun d => { d with cell := none }) ++ [f] ∧
      f.kind = .feed ∧ f.x = none ∧
      f.offsetAfter = some (if s.line.state = .returned then 0 else s.line.v) ∧
      f.feed = some (sign * s.settings.spacing.steps)) ∧
    s.sameMechanism u ∧ s.sameSettings u ∧ u.keys = s.keys := by
  obtain ⟨t, p, d, left⟩ := indexed_eq s
  have acts : s.indexOn sign = s.indexed.withRoom
      (feedEntry (sign * s.indexed.settings.spacing.steps) s.indexed.line.v) := rfl
  rw [left] at acts
  rw [acts, withRoom_eq (by simpa [State.strikeFree] using room)]
  exact ⟨_, rfl, rfl, ⟨_, rfl, rfl, rfl, rfl, rfl⟩, ⟨rfl, rfl, rfl, rfl, rfl, rfl, rfl⟩, ⟨rfl, rfl⟩, rfl⟩

/-- Settles O27: the line is closed, the next opened, and the FEED appended. -/
theorem indexFeedsOneSpacing : Obligations.IndexFeedsOneSpacing := by
  intro s e down taken room stands
  have settled : s.line.state = .open → s.line.settled = true := by
    rintro state
    obtain ⟨_, settled, _⟩ | returned := stands
    · exact settled
    · simp [state] at returned
  have keyed (sign : Int) : s.takeHead.indexKey sign e = s.takeHead.indexOn sign := by
    obtain ⟨state, settled, rest⟩ | returned := stands
    · exact indexKey_settled sign state settled rest
    · exact indexKey_returned sign returned
  cases down
  · obtain ⟨u, acts, line, feeds, rest⟩ := indexOn_feeds (s := s.takeHead) (-1) room
    refine ⟨u, exec_takes (exec_reverseIndex settled) taken ((keyed _).trans acts), ⟨line, ?_⟩, rest⟩
    obtain ⟨f, entries, kind, x, offset, feed⟩ := feeds
    exact ⟨f, entries, kind, x, offset, feed.trans (by simp)⟩
  · obtain ⟨u, acts, line, feeds, rest⟩ := indexOn_feeds (s := s.takeHead) 1 room
    refine ⟨u, exec_takes (exec_index settled) taken ((keyed _).trans acts), ⟨line, ?_⟩, rest⟩
    obtain ⟨f, entries, kind, x, offset, feed⟩ := feeds
    exact ⟨f, entries, kind, x, offset, feed.trans (by simp)⟩

/-! ## RETURN (R33) -/

/-- What the loss of trailing SPACE cells can write. -/
theorem dropTrailing_eq (n : Nat) (s : State) : ∃ l t d, s.dropTrailing n =
    { s with line := l, text := t, display := d } ∧ (s.text.aligned = none → t.aligned = none) := by
  induction n generalizing s with
  | zero => exact ⟨_, _, _, rfl, id⟩
  | succ n ih =>
    unfold State.dropTrailing
    split
    · split
      · obtain ⟨l, t, d, rest, aligned⟩ := ih (s.removeCell (s.line.cells.length - 1))
        exact ⟨l, t, d, rest, fun none => aligned (by simp [State.removeCell, none])⟩
      · exact ⟨_, _, _, rfl, id⟩
    · exact ⟨_, _, _, rfl, id⟩

/-- The placement of a whole line writes the line, the text engine's counters and the display alone. -/
theorem placeWhole_eq (s : State) : ∃ l t d, s.placeWhole =
    { s with line := l, text := t, display := d } ∧ (s.text.aligned = none → t.aligned = none) := by
  unfold State.placeWhole
  split
  · obtain ⟨l, t, d, dropped, aligned⟩ := dropTrailing_eq s.line.cells.length s
    simp only [dropped]
    exact ⟨_, _, _, rfl, aligned⟩
  · exact ⟨_, _, _, rfl, id⟩

/-- A line without a whole-line format keeps its cells. -/
theorem placeWhole_of_plain (plain : s.line.format.isPlaced = false) : s.placeWhole = s := by
  simp [State.placeWhole, plain]

/-- RETURN ends the line in RETURN_WAIT with a run over every cell (R33). -/
theorem returnOn_ends (v : State) : ∃ u, v.returnOn = some u ∧
    (let p := v.closeAligned.placeWhole.line
     u.line = { p with state := .returnWait, run := some (extendRun p.run p.cells.length .ret) }) ∧
    u.text.aligned = none ∧ u.spell.endClosed = true ∧ u.strikes = v.strikes ∧
    v.sameMechanism u ∧ v.sameSettings u ∧ u.keys = v.keys := by
  obtain ⟨l, t, d, placed, aligned⟩ := placeWhole_eq v.closeAligned
  refine ⟨_, rfl, ?_⟩
  simp only [State.endOfLine, placed, State.startRun]
  exact ⟨trivial, aligned rfl, trivial, rfl, ⟨rfl, rfl, rfl, rfl, rfl, rfl, rfl⟩, ⟨rfl, rfl⟩, rfl⟩

/-- Settles O26: the end of the line and the run of RETURN, and the entry its end appends. -/
theorem returnEndsLineAndFeeds : Obligations.ReturnEndsLineAndFeeds := by
  refine ⟨fun s e taken state => ?_, fun s room => ?_⟩
  · intro v p
    obtain ⟨u, acts, line, aligned, closed, strikes, mechanism, settings, keys⟩ := returnOn_ends v
    have plain (plain : v.line.format.isPlaced = false) : p = v.line :=
      (congrArg State.line (placeWhole_of_plain (s := v.closeAligned) plain)).trans rfl
    exact ⟨u, exec_acts rfl taken state acts, line, plain, aligned, closed, strikes, mechanism, settings,
      keys.trans (acting_keys s)⟩
  · intro t feed
    have appended := appendGroup_one (d := s.returnEntry) room
    have ends : t = ({ s with
        strikes := ⟨s.strikes.entries ++ [s.returnEntry.alone s.strikes.nextId],
          s.strikes.nextId + 1⟩,
        line := { s.line with
          state := .returned, baselineOff := some s.line.v, returnFeed := some feed,
          returnId := some s.strikes.nextId, v := 0 } } : State).endRun := by
      simp only [t, State.returnEnding, appended]
      rfl
    rw [ends]
    exact ⟨⟨_, rfl, rfl, rfl, rfl, rfl, rfl, rfl⟩, rfl, ⟨rfl, rfl, rfl, rfl, rfl, rfl, rfl⟩, rfl, rfl⟩

/-! ## Cursor keys (R40, R41) -/

/-- What a cursor key ends with: the cursor at its new place, and a MOVE there where one follows. -/
def State.Moved (s : State) (new : Nat) (follows : Prop) (u : State) : Prop :=
  u.line = { s.line with cursor := new } ∧ (¬ follows → u.strikes = s.strikes) ∧
    (follows → ∃ f : Entry, u.strikes.entries = s.strikes.entries ++ [f] ∧ f.kind = .move ∧
      f.x = some (target (s.line.cursorX new) s.retained.printOffset)) ∧
    s.sameMechanism u ∧ s.sameSettings u ∧ u.keys = s.keys

theorem setCursor_moved {p : Prop} (new : Nat) (stays : ¬ p) : s.Moved new p (s.setCursor new) :=
  ⟨rfl, fun _ => rfl, fun h => absurd h stays, ⟨rfl, rfl, rfl, rfl, rfl, rfl, rfl⟩, ⟨rfl, rfl⟩, rfl⟩

/-- A MOVE to the new cursor's place, with room (R40, R41). -/
theorem withRoom_moved {p : Prop} {x new : Nat} (room : 1 ≤ s.strikeFree)
    (follows : p) (place : x = s.line.cursorX new) :
    ∃ u, (s.setCursor new).withRoom ((s.setCursor new).moveEntry x) = some u ∧ s.Moved new p u := by
  subst place
  refine ⟨_, withRoom_eq room, rfl, fun h => absurd follows h, fun _ => ⟨_, rfl, rfl, rfl⟩,
    ⟨rfl, rfl, rfl, rfl, rfl, rfl, rfl⟩, ⟨rfl, rfl⟩, rfl⟩

/-- The cursor moves over a cell, a MOVE following over one that is not PENDING in DIRECT typing (R40). -/
theorem moveCursor_moved (passed new : Nat) (room : 1 ≤ s.strikeFree) :
    ∃ u, s.moveCursor passed new = some u ∧ s.Moved new (s.settings.mode = .direct ∧
      ∃ d, s.line.cells[passed]? = some d ∧ d.state ≠ .pending) u := by
  unfold State.moveCursor
  cases found : s.line.cells[passed]? with
  | none => exact ⟨_, rfl, setCursor_moved new (by simp)⟩
  | some c =>
    by_cases follows : s.settings.mode = .direct ∧ c.state ≠ .pending
    · have test : (s.settings.mode = .direct && c.state ≠ .pending) = true := by simp [follows]
      simp only [test, if_true]
      exact withRoom_moved room ⟨follows.1, c, rfl, follows.2⟩ rfl
    · have test : ¬ (s.settings.mode = .direct && c.state ≠ .pending) = true := by
        simpa using follows
      simp only [test]
      refine ⟨_, rfl, setCursor_moved new ?_⟩
      rintro ⟨direct, d, same, state⟩
      exact follows ⟨direct, by rwa [Option.some.inj same]⟩

/-- Settles O29: each key's event is a move of the cursor, the MOVE following by R40 and R41. -/
theorem cursorKeysMove : Obligations.CursorKeysMove := by
  intro s e state room n released moves
  have onLine (act : State → Option State) : s.takeHead.onThisLine act = act s.takeHead := if_neg state
  refine ⟨fun taken inside => ?_, fun taken start => ?_, fun taken inside => ?_, fun taken past => ?_,
    fun taken => ?_⟩
  · obtain ⟨u, acts, moved⟩ :=
      moveCursor_moved (s := s.takeHead) (s.line.cursor - 1) (s.line.cursor - 1) room
    refine ⟨u, exec_takes rfl taken ((onLine _).trans ((if_neg ?_).trans acts)), moved⟩
    change ¬ s.line.cursor = 0
    omega
  · refine ⟨s.takeHead, exec_takes rfl taken ((onLine _).trans (if_pos start)), ?_⟩
    rw [← start]
    exact ⟨rfl, fun _ => rfl, False.elim, ⟨rfl, rfl, rfl, rfl, rfl, rfl, rfl⟩, ⟨rfl, rfl⟩, rfl⟩
  · obtain ⟨u, acts, moved⟩ :=
      moveCursor_moved (s := s.takeHead) s.line.cursor (s.line.cursor + 1) room
    exact ⟨u, exec_takes rfl taken ((onLine _).trans
      ((if_neg (Nat.not_le.mpr inside)).trans acts)), moved⟩
  · exact ⟨s.takeHead, exec_takes rfl taken ((onLine _).trans (if_pos past)), rfl, fun _ => rfl,
      False.elim, ⟨rfl, rfl, rfl, rfl, rfl, rfl, rfl⟩, ⟨rfl, rfl⟩, rfl⟩
  · obtain ⟨u, acts, moved⟩ := withRoom_moved (s := s.takeHead) (p := True) (new := n)
      (x := s.line.endPos) room trivial (by simp [Line.cursorX, n])
    exact ⟨u, exec_takes rfl taken ((onLine _).trans acts), moved⟩

end Sys2Proof.Machine
end

section
/-! Proofs about the stroke: the heat rule and the fire, the settling, the advance and the completion of an
entry (R79 to R81, R9, R11, R115 to R117, R120, R122, R133). -/

namespace Sys2Proof.Machine

variable {s u : State} {e : Entry} {n : Nat}

/-! ## What the reports and the stages can write -/

/-- The completion report writes the line, the Text Engine and the display alone. -/
theorem completionReport_eq (e : Entry) (s : State) : ∃ l t d,
    s.completionReport e = { s with line := l, text := t, display := d } := by
  unfold State.completionReport State.liftDone
  repeat' split
  all_goals exact ⟨_, _, _, rfl⟩

/-- The completion of the head writes the queue and the sequencer besides. -/
theorem completeHead_eq (s : State) : ∃ k q l t d, s.completeHead =
    { s with strikes := k, seq := q, line := l, text := t, display := d } := by
  unfold State.completeHead
  split
  · exact ⟨_, _, _, _, _, rfl⟩
  next e rest _ =>
    obtain ⟨l, t, d, report⟩ := completionReport_eq e { s with
      strikes := { s.strikes with entries := rest },
      seq := { s.seq with stage := none, inFlight := none } }
    rw [report]
    exact ⟨_, _, _, _, _, rfl⟩

/-- What the completion of the head leaves of the queue and the sequencer. -/
theorem completeHead_cons {rest : List Entry} (head : s.strikes.entries = e :: rest) :
    s.completeHead = ((({ s with
      strikes := { s.strikes with entries := rest },
      seq := { s.seq with stage := none, inFlight := none } } : State).completionReport e).noteR23) := by
  simp [State.completeHead, head]

theorem completeHead_leaves {rest : List Entry} (head : s.strikes.entries = e :: rest) :
    s.completeHead.strikes.entries = rest ∧ s.completeHead.seq = { s.seq with
      stage := none, inFlight := none } := by
  obtain ⟨l, t, d, report⟩ := completionReport_eq e { s with
    strikes := { s.strikes with entries := rest },
    seq := { s.seq with stage := none, inFlight := none } }
  rw [completeHead_cons head, report]
  exact ⟨rfl, rfl⟩

theorem fireReport_eq (e : Entry) (s : State) : ∃ l, s.fireReport e = { s with line := l } := by
  unfold State.fireReport
  split <;> exact ⟨_, rfl⟩

/-- The heat rule writes the sequencer, the hammer, the ribbon and the line alone. -/
theorem tryFire_eq (s : State) : ∃ q h r l,
    s.tryFire = { s with seq := q, hammer := h, ribbon := r, line := l } := by
  unfold State.tryFire
  repeat' split
  · unfold State.beginFire
    obtain ⟨l, report⟩ := fireReport_eq _ _
    rw [report]
    exact ⟨_, _, _, _, rfl⟩
  all_goals exact ⟨_, _, _, _, rfl⟩

/-- A request that meets the heat rule's conditions is granted (R117). -/
theorem tryFire_granted (request : s.hammer.request = some n) (entry : s.entry = some e)
    (stage : s.seq.stage = some .heatWait) (room : s.hammer.heat + n ≤ 600)
    (home : s.inputs.hammerHome.qualified = true) : s.tryFire = s.beginFire e n := by
  have grant : s.grantable = true := by
    simp only [State.grantable, request, Bool.and_eq_true, decide_eq_true_eq]
    exact ⟨room, home⟩
  simp [State.tryFire, request, entry, grant, stage]

/-- One that does not waits, and nothing changes. -/
theorem tryFire_waits (request : s.hammer.request = some n)
    (waits : ¬ (s.hammer.heat + n ≤ 600 ∧ s.inputs.hammerHome.qualified = true)) :
    s.tryFire = s := by
  have refused : s.grantable = false := by
    rw [← Bool.not_eq_true]
    simp only [State.grantable, request, Bool.and_eq_true, decide_eq_true_eq]
    exact waits
  unfold State.tryFire
  repeat' split
  · simp_all
  all_goals rfl
theorem tryFire_none (request : s.hammer.request = none) : s.tryFire = s := by
  simp [State.tryFire, request]

/-- What a fire leaves but the line. -/
theorem beginFire_leaves (e : Entry) (n : Nat) (s : State) : ∃ l, s.beginFire e n = { s with
    seq := { s.seq with
      stage := some .fire, inFlight := s.seq.inFlight.map fun f => { f with fired := true } },
    hammer := { heat := s.hammer.heat + n, decay := true, request := none, pulse := some n },
    ribbon := { s.ribbon with
      ribbonUp := s.ribbon.ribbonUp || e.kind ≠ .lift,
      tapeUp := s.ribbon.tapeUp || e.kind = .lift },
    line := l } := by
  unfold State.beginFire
  exact fireReport_eq _ _

/-! ## Faults -/

/-- What a fault writes: the sequencer, the hammer's request, the notice and the ALARM; one taken in ADJUST
is an event of R23 besides (R89). -/
theorem takeFault_eq (code : FaultCode) (s : State) : ∃ t, s.takeFault code = { s with
    seq := { s.seq with
      mech := .fault, fault := some code, stage := none, recovering := false,
      inFlight := if s.seq.mech = .adjust then none else s.seq.inFlight,
      draining := false, testPos := none, testStrike := none, leaving := false },
    hammer := { s.hammer with request := none },
    notices := { s.notices with
      rows := s.notices.rows.setRow .fault
        ((s.notices.rows.row .fault).occur [byteOf (faultNumber (some code))]) },
    tone := s.tone.request s.settings.volume .alarm true,
    text := t } := by
  unfold State.takeFault
  by_cases adjust : s.seq.mech = .adjust
  · simp only [adjust, if_true]
    exact ⟨_, rfl⟩
  · simp only [adjust, if_false]
    exact ⟨_, rfl⟩

/-- What a fault sets, and what it leaves. -/
theorem takeFault_leaves (code : FaultCode) (s : State) :
    let t := s.takeFault code
    t.seq.mech = .fault ∧ t.seq.fault = some code ∧ t.seq.stage = none ∧ t.seq.recovering = false ∧
      t.strikes = s.strikes ∧ t.line = s.line ∧ t.keys = s.keys ∧ s.sameSettings t ∧
      t.inputs = s.inputs ∧ t.carrier = s.carrier ∧ t.wheel = s.wheel ∧ t.platen = s.platen ∧
      t.spell = s.spell ∧
      t.notices.rows.fault = s.notices.rows.fault.occur [byteOf (faultNumber (some code))] ∧
      t.tone = s.tone.request s.settings.volume .alarm true := by
  obtain ⟨t, fault⟩ := takeFault_eq code s
  rw [fault]
  exact ⟨rfl, rfl, rfl, rfl, rfl, rfl, rfl, ⟨rfl, rfl⟩, rfl, rfl, rfl, rfl, rfl, rfl, rfl⟩

/-! ## FIRE (R79, R117) -/

/-- The ribbon record of R9 and R123, by the entry's kind. -/
theorem firedRibbon_eq (e : Entry) (now cell : Option RibbonKind) : firedRibbon e now cell =
    match e.kind with
    | .print | .underscore | .overprint =>
      if e.first = true ∧ e.kind ≠ .overprint then now
      else if cell = some .film ∧ now ≠ none then now else cell
    | _ => cell := by
  unfold firedRibbon inkAdded
  cases e.kind <;> cases e.first <;> cases now <;> simp

/-- The cells after a fire report (R73). -/
theorem fireReport_cells (e : Entry) (s : State) :
    (s.fireReport e).line = { s.line with
      cells := s.line.cells.map fun d =>
        if e.cell = some d.id then
          { d with
            state := if d.state = .queued then .striking else d.state
            ribbon := firedRibbon e s.ribbon.kind d.ribbon }
        else d } := by
  unfold State.fireReport
  cases e.cell with
  | none => simp
  | some id => simp [State.mapCell, eq_comm]

/-- Settles O38: the heat rule grants the request or nothing changes. -/
theorem fireNeedsRoomInHeatAccount : Obligations.FireNeedsRoomInHeatAccount := by
  intro s n e live request entry stage
  have run : exec .fire s = .next (s.tryFire.finish s) := by
    change Host.Outcome.next (if s.live = true then _ else _) = _
    rw [if_pos live]
  obtain ⟨q, h, r, l, tried⟩ := tryFire_eq s
  refine ⟨_, run, ?_, ?_, ?_, ?_, ?_, ?_, ?_⟩
  · exact sameSettings_finish.mpr (by rw [tried]; exact ⟨rfl, rfl⟩)
  · rw [finish_keys, tried]
  · rw [finish_strikes, tried]
  · rw [finish_carrier, tried]
  · rw [finish_wheel, tried]
  · rw [finish_platen, tried]
  split
  next grants =>
    obtain ⟨room, home⟩ := grants
    have line : s.tryFire.line = _ :=
      (congrArg State.line (tryFire_granted request entry stage room home)).trans
        (fireReport_cells e _)
    obtain ⟨l, fired⟩ := beginFire_leaves e n s
    rw [finish_hammer, finish_seq, finish_ribbon, finish_line, line,
      tryFire_granted request entry stage room home, fired]
    refine ⟨rfl, rfl, rfl, fun lift => by simp [lift], fun ink => by simp [ink], ?_, rfl⟩
    simp only [firedRibbon_eq] <;> rfl
  next waits =>
    rw [finish_hammer, finish_seq, finish_ribbon, finish_line, tryFire_waits request waits]
    exact ⟨rfl, rfl, rfl, rfl⟩

/-! ## Decay (R116) -/

/-- Settles O41: the account is shed, then the heat rule judges the request. -/
theorem decayEventsCoolTheCoil : Obligations.DecayEventsCoolTheCoil := by
  intro s live
  have run (decay : s.hammer.decay = true) : exec .decayEvent s =
      .next ((({ s with hammer := s.hammer.shed } : State).tryFire).finish s) := by
    change (if (s.live && s.hammer.decay) = true then _ else _) = _
    rw [live, decay]
    rfl
  refine ⟨fun decay request => ?_, fun n e decay request entry stage home => ?_, fun rest => ?_⟩
  · have ends := run decay
    rw [tryFire_none (by exact request)] at ends
    refine ⟨_, ends, ?_, ?_, ?_, finish_seq .., finish_line .., sameSettings_finish.mpr ⟨rfl, rfl⟩⟩
    · rw [finish_hammer]; rfl
    · rw [finish_hammer]; rfl
    · rw [finish_hammer]; rfl
  · refine ⟨_, run decay, ?_⟩
    rw [finish_hammer, finish_seq]
    split
    next room =>
      obtain ⟨l, fired⟩ := beginFire_leaves e n { s with hammer := s.hammer.shed }
      rw [tryFire_granted (by exact request) (by exact entry) (by exact stage) (by exact room)
        (by exact home), fired]
      exact ⟨rfl, rfl, rfl⟩
    next full =>
      rw [tryFire_waits (n := n) (by exact request) (fun grants => full grants.1)]
      exact ⟨request, rfl, rfl⟩
  · change (if (s.live && decide (s.carrier.move = .none)) = true then _ else _) = _
    rw [live, rest]
    rfl

/-! ## ADVANCE (R81, R120) -/

/-- A cell that is found has an index. -/
theorem cellIndex_of_find {cells : List Cell} {id : Nat} {c : Cell}
    (found : cells.find? (fun c => c.id = id) = some c) :
    ∃ i, cellIndex id cells = some i ∧ cells[i]? = some c := by
  induction cells with
  | nil => simp at found
  | cons d cells ih =>
    unfold cellIndex
    by_cases here : d.id = id
    · exact ⟨0, by simp [here], by simpa [here] using found⟩
    · obtain ⟨i, index, same⟩ := ih (by simpa [here] using found)
      exact ⟨i + 1, by simp [here, index], by simpa using same⟩

/-- The completion report of an entry that says nothing of a cell. -/
theorem completionReport_silent (silent : e.cell = none ∨ e.last = false) :
    s.completionReport e = s := by
  unfold State.completionReport
  obtain none | notLast := silent
  · simp [none]
  · cases e.cell <;> simp [notLast]

/-- The completion report of a group's last entry on a cell that is not LIFTING. -/
theorem completionReport_strikes {id : Nat} {c : Cell} (cell : e.cell = some id)
    (last : e.last = true) (found : s.line.find id = some c) (state : c.state ≠ .lifting) :
    s.completionReport e = s.mapCell id fun d =>
      { d with state := .struck, glyphs := glyphsAfter e d, prior := none } := by
  obtain ⟨i, index, _⟩ := cellIndex_of_find found
  simp [State.completionReport, cell, last, found, index, state]

/-- The completion report of a LIFT group's last entry. -/
theorem completionReport_lifts {c : Cell} {i : Nat} (cell : e.cell = some c.id)
    (last : e.last = true) (found : s.line.find c.id = some c)
    (index : cellIndex c.id s.line.cells = some i) (state : c.state = .lifting) :
    s.completionReport e = s.liftDone i c := by
  simp [State.completionReport, cell, last, found, index, state]

/-- Settles O40: the head leaves the queue, and its report says what becomes of its cell. -/
theorem advanceCompletesEntry : Obligations.AdvanceCompletesEntry := by
  intro s e rest live stage noTest head
  have run : exec .advanceEnd s = .next (s.advanceDone.conclude s) := by
    change (if (s.live && decide (s.seq.stage = some .advance)) = true then _ else _) = _
    rw [live, stage]
    rfl
  have done : s.advanceDone =
      ({ s with ribbon := { s.ribbon with advance := 0 } } : State).completeHead := by
    simp [State.advanceDone, noTest]
  let v : State := { s with
    ribbon := { s.ribbon with advance := 0 }, strikes := { s.strikes with entries := rest },
    seq := { s.seq with stage := none, inFlight := none } }
  have reports : s.advanceDone = (v.completionReport e).noteR23 := by
    rw [done]
    exact completeHead_cons (s := { s with ribbon := { s.ribbon with advance := 0 } }) head
  obtain ⟨l, t, d, report⟩ := completionReport_eq e v
  refine ⟨_, run, ?_, ?_, ?_, ?_, ?_, ?_, ?_, ?_, fun silent => ?_, fun c id cell last found state => ?_,
    fun c i cell last found index state => ?_⟩
  · rw [reports, report]; rfl
  · rw [reports, report]; rfl
  · rw [reports, report]; rfl
  · rw [reports, report]; rfl
  · rw [reports, report]; rfl
  · rw [reports, report]; rfl
  · rw [reports, report]; exact ⟨rfl, rfl⟩
  · rw [reports, report]; rfl
  · rw [reports, completionReport_silent silent]; rfl
  · rw [reports, completionReport_strikes cell last (by exact found) (by simp [state])]
    rfl
  · have lifts := completionReport_lifts (s := v) cell last found index state
    rw [reports, lifts]
    unfold State.liftDone
    split
    next => rfl
    next =>
      split
      next final =>
        refine ⟨?_, rfl⟩
        change s.line.cells.eraseIdx i = _
        simp [List.eraseIdx_eq_take_drop_succ, ← final]
      next => rfl

/-! ## SETTLE (R80) -/

/-- What the end of ADVANCE leaves of the sequencer, the ribbon and the hammer. -/
theorem advanceDone_leaves (entry : s.entry = some e) :
    s.advanceDone.seq.stage = none ∧ s.advanceDone.seq.inFlight = none ∧
      s.advanceDone.ribbon.advance = 0 ∧ s.advanceDone.hammer = s.hammer ∧
      s.sameSettings s.advanceDone := by
  cases test : s.seq.testStrike with
  | some d => simp [State.advanceDone, test, State.sameSettings]
  | none =>
    obtain ⟨rest, head⟩ : ∃ rest, s.strikes.entries = e :: rest := by
      cases entries : s.strikes.entries <;> simp_all [State.entry]
    have done : s.advanceDone =
        ({ s with ribbon := { s.ribbon with advance := 0 } } : State).completeHead := by
      simp [State.advanceDone, test]
    obtain ⟨_, seq⟩ :=
      completeHead_leaves (s := { s with ribbon := { s.ribbon with advance := 0 } }) head
    obtain ⟨k, q, l, t, d, completed⟩ :=
      completeHead_eq { s with ribbon := { s.ribbon with advance := 0 } }
    rw [done]
    refine ⟨by rw [seq], by rw [seq], ?_⟩
    rw [completed]
    exact ⟨rfl, rfl, rfl, rfl⟩

/-- Settles O39: the pulse's end, then the hammer as it stands, then the steps of the kind in place. -/
theorem pulseThenSettleThenAdvance : Obligations.PulseThenSettleThenAdvance := by
  constructor
  · intro s n live pulse stage
    have run : exec .pulseEnd s = .next ((({ s with
        hammer := { s.hammer with pulse := none },
        ribbon := { s.ribbon with ribbonUp := false, tapeUp := false } } : State).setStage
          (some .settle)).finish s) := by
      change (if (s.live && s.hammer.pulse.isSome) = true then _ else _) = _
      simp only [live, pulse, stage]
      rfl
    refine ⟨_, run, finish_hammer .., finish_seq .., ?_, ?_, sameWork_finish.mpr
      ⟨rfl, rfl, rfl, rfl, rfl, rfl, rfl⟩, sameSettings_finish.mpr ⟨rfl, rfl⟩, finish_carrier ..⟩
    · rw [finish_ribbon]; rfl
    · rw [finish_ribbon]; rfl
  · intro s e live stage entry
    have run : exec .settleEnd s = .next ((if s.inputs.hammerHome.raw then s.beginAdvance e
        else s.takeFault .hammer).conclude s) := by
      change (if (s.live && decide (s.seq.stage = some .settle)) = true then _ else _) = _
      simp only [live, stage, entry]
      rfl
    refine ⟨fun away => ?_, fun w home width => ?_⟩
    · rw [away] at run
      obtain ⟨mech, fault, _, _, strikes, line, _, settings, _, _, _, _, _, notice, _⟩ :=
        takeFault_leaves .hammer s
      exact ⟨_, run, mech, fault, strikes, line, notice, settings⟩
    · intro advancing steps
      have count : advanceSteps e s.ribbon.kind s.ribbon.tape = steps := by
        simp only [advanceSteps, steps, width, Option.getD_some, Config.tapeSteps]
        cases s.ribbon.tape <;> rfl
      have begins : s.beginAdvance e = if steps = 0
          then ({ advancing with ribbon := { s.ribbon with advance := steps } } : State).advanceDone
          else { advancing with ribbon := { s.ribbon with advance := steps } } := by
        rw [← count]
        rfl
      simp only [home, if_true, begins] at run
      refine ⟨fun moved => ?_, fun still => ?_⟩
      · rw [if_neg (Nat.pos_iff_ne_zero.mp moved)] at run
        exact ⟨_, run, rfl, rfl, rfl, rfl, rfl, rfl, rfl⟩
      · rw [if_pos still] at run
        have ends : exec .advanceEnd advancing = .next (advancing.advanceDone.conclude advancing) := by
          change (if (s.live && true) = true then _ else _) = _
          rw [live]
          rfl
        obtain ⟨stage, flight, advance, hammer, settings⟩ := advanceDone_leaves (s := advancing) entry
        exact ⟨_, run, ends, stage, flight, advance, hammer, settings⟩

end Sys2Proof.Machine
end

section
/-! Proofs about the carrier: the check of a move by its marks, the homing, and how a start-up or a
recovery goes on (R89, R90, R94, R95, R188). -/

namespace Sys2Proof.Machine

variable {s u : State} {e : Entry} {n : Nat}

/-! ## What the end of a motion can write -/

theorem beginHeatWait_eq (e : Entry) (s : State) : ∃ q h r l, s.beginHeatWait e =
    { s with seq := q, hammer := h, ribbon := r, line := l } := by
  obtain ⟨q, h, r, l, tried⟩ := tryFire_eq { s with
    seq := { s.seq with stage := some .heatWait },
    hammer := { s.hammer with request := some (5 + e.energy.getD 1) } }
  exact ⟨q, h, r, l, tried⟩

/-- The end of POSITION leaves the drives, the inputs and the settings. -/
theorem positionEnd_eq (e : Entry) (s : State) : ∃ k q h r l t d, s.positionEnd e =
    { s with
      strikes := k, seq := q, hammer := h, ribbon := r, line := l, text := t, display := d } := by
  unfold State.positionEnd
  repeat' split
  · obtain ⟨q, h, r, l, begun⟩ := beginHeatWait_eq e s
    exact ⟨_, q, h, r, l, _, _, begun⟩
  · obtain ⟨k, q, l, t, d, completed⟩ := completeHead_eq s
    exact ⟨k, q, _, _, l, t, d, completed⟩
  · exact ⟨_, _, _, _, _, _, _, rfl⟩

theorem motionEnded_eq (s : State) : ∃ k q h r l t d, s.motionEnded =
    { s with
      strikes := k, seq := q, hammer := h, ribbon := r, line := l, text := t, display := d } := by
  have drained : ∃ q, s.drained = { s with seq := q } := by
    unfold State.drained
    split <;> exact ⟨_, rfl⟩
  obtain ⟨q, drained⟩ := drained
  unfold State.motionEnded
  rw [drained]
  simp only
  split
  next e _ =>
    obtain ⟨k, q, h, r, l, t, d, ended⟩ := positionEnd_eq e { s with seq := q }
    exact ⟨k, q, h, r, l, t, d, ended⟩
  next => exact ⟨_, _, _, _, _, _, _, rfl⟩

theorem moveEnded_eq (s : State) : ∃ k q h r l t d, s.moveEnded =
    { s with
      strikes := k, seq := q, hammer := h, ribbon := r, line := l, text := t, display := d } := by
  unfold State.moveEnded
  split
  · exact ⟨_, _, _, _, _, _, _, rfl⟩
  · exact motionEnded_eq s

/-! ## The check of a move (R95) -/

/-- The marks that are good: within one of the distance in sixths. -/
def goodMarks (x0 x count : Nat) : Prop :=
  let expected := (x / 6 - x0 / 6) + (x0 / 6 - x / 6)
  expected ≤ count + 1 ∧ count ≤ expected + 1

theorem marksGood_iff (x0 x count : Nat) :
    marksGood (expectedMarks x0 x) count = true ↔ goodMarks x0 x count := by
  have expected : expectedMarks x0 x = (x / 6 - x0 / 6) + (x0 / 6 - x / 6) := by
    unfold expectedMarks
    split <;> omega
  simp [marksGood, expected, goodMarks]

/-- The carrier at the end of a good move, and of a bad one. -/
theorem endMove_good {c : Carrier} {x marks : Nat}
    (good : goodMarks c.pos x (min 1600 (c.marks + marks))) :
    (c.addMarks marks).endMove x = (⟨x, c.known, 0, .none⟩, true) :=
  if_pos ((marksGood_iff _ _ _).mpr good)
theorem endMove_bad {c : Carrier} {x marks : Nat}
    (bad : ¬ goodMarks c.pos x (min 1600 (c.marks + marks))) :
    (c.addMarks marks).endMove x = ({ c with known := false, marks := 0, move := .none }, false) :=
  if_neg (mt (marksGood_iff _ _ _).mp bad)

section Check
variable {x marks : Nat} (live : s.live = true)
include live

/-- The end of a move toward a target, by its check. -/
theorem exec_move_good (move : s.carrier.move = .moving x)
    (good : goodMarks s.carrier.pos x (min 1600 (s.carrier.marks + marks))) :
    exec (.carrierMoveComplete marks) s = .next
      (({ s with carrier := ⟨x, s.carrier.known, 0, .none⟩ } : State).moveEnded.conclude s) := by
  change execCarrierMoveComplete marks s = _
  simp [execCarrierMoveComplete, live, move, endMove_good good]
theorem exec_move_bad (move : s.carrier.move = .moving x)
    (bad : ¬ goodMarks s.carrier.pos x (min 1600 (s.carrier.marks + marks))) :
    exec (.carrierMoveComplete marks) s = .next ((({ s with
      carrier := { s.carrier with known := false, marks := 0, move := .none } } : State).takeFault
        .carrierStall).conclude s) := by
  change execCarrierMoveComplete marks s = _
  simp [execCarrierMoveComplete, live, move, endMove_bad bad]

/-- The end of a homing's last move, by its check. -/
theorem exec_homing_good (move : s.carrier.move = .homing (.toMargin x))
    (good : goodMarks s.carrier.pos x (min 1600 (s.carrier.marks + marks))) :
    exec (.carrierMoveComplete marks) s = .next
      (({ s with carrier := ⟨x, s.carrier.known, 0, .none⟩ } : State).carrierHomed.conclude s) := by
  change execCarrierMoveComplete marks s = _
  simp [execCarrierMoveComplete, live, move, endMove_good good]
theorem exec_homing_bad (move : s.carrier.move = .homing (.toMargin x))
    (bad : ¬ goodMarks s.carrier.pos x (min 1600 (s.carrier.marks + marks))) :
    exec (.carrierMoveComplete marks) s = .next (((({ s with
      carrier := { s.carrier with known := false, marks := 0, move := .none } } : State).mapStartup
        fun u => { u with carrierDone := true }).takeFault .carrierHome).conclude s) := by
  change execCarrierMoveComplete marks s = _
  simp [execCarrierMoveComplete, live, move, endMove_bad bad, State.carrierHomeFailed]

end Check

/-! ## Start-up (R188) -/

theorem partsEnded_iff {p : StartUp} : s.partsEnded p = true ↔ p.carrierDone = true ∧
    p.wheelDone = true ∧ p.sensingDone = true ∧ s.spell.headersRead = true := by
  simp [State.partsEnded, and_assoc]

/-- The parts of a start-up that have ended bring READY. -/
theorem checkReady_ready {p : StartUp} (startup : s.seq.startup = some p)
    (mech : s.seq.mech = .starting) (parts : s.partsEnded p = true) :
    s.checkReady = s.ready p := by
  simp [State.checkReady, startup, mech, parts]
/-- Else nothing changes. -/
theorem checkReady_waits {p : StartUp} (startup : s.seq.startup = some p)
    (waits : ¬ (s.seq.mech = .starting ∧ s.partsEnded p = true)) : s.checkReady = s := by
  simp only [State.checkReady, startup, Bool.and_eq_true, decide_eq_true_eq]
  exact if_neg waits
theorem checkReady_none (startup : s.seq.startup = none) : s.checkReady = s := by
  simp [State.checkReady, startup]

/-- READY opens the line and writes the sequencer, the notices and the Text Engine's counters. -/
theorem checkReady_eq (s : State) : ∃ l t q p d n, s.checkReady =
    { s with line := l, text := t, seq := q, spell := p, display := d, notices := n } := by
  unfold State.checkReady
  repeat' split
  all_goals exact ⟨_, _, _, _, _, _, rfl⟩

theorem mapStartup_none {f : StartUp → StartUp} (startup : s.seq.startup = none) :
    s.mapStartup f = s := by
  have seq : { s.seq with startup := s.seq.startup.map f } = s.seq := by
    rw [startup]
    exact congrArg (fun p => { s.seq with startup := p }) startup.symm
  unfold State.mapStartup
  rw [seq]

/-- Settles O35: the marks decide, and the two kinds of move go on by what they belong to. -/
theorem carrierMoveIsChecked : Obligations.CarrierMoveIsChecked := by
  intro s x marks live count expected good ends arrives fails
  refine ⟨fun move => ⟨fun isGood => ?_, fun bad => ?_⟩, fun move => ⟨fun bad => ?_,
    fun isGood recovering => ?_, fun isGood recovering startup => ?_,
    fun p isGood recovering startup starting => ?_⟩⟩
  · obtain ⟨k, q, h, r, l, t, d, ended⟩ := moveEnded_eq { s with
      carrier := ⟨x, s.carrier.known, 0, .none⟩ }
    have run := exec_move_good live move isGood
    rw [ended] at run
    exact ⟨_, ⟨run, rfl, ⟨rfl, rfl⟩, rfl⟩, rfl⟩
  · obtain ⟨mech, fault, stage, _, strikes, line, keys, settings, inputs, carrier, _, _, _, notice,
      tone⟩ := takeFault_leaves .carrierStall { s with
        carrier := { s.carrier with known := false, marks := 0, move := .none } }
    exact ⟨_, ⟨exec_move_bad live move bad, keys, settings, inputs⟩, carrier, mech, fault, stage,
      strikes, line, notice, tone⟩
  · obtain ⟨mech, fault, stage, _, strikes, line, keys, settings, inputs, carrier, _, _, _, notice,
      tone⟩ := takeFault_leaves .carrierHome (({ s with
        carrier := { s.carrier with known := false, marks := 0, move := .none } } : State).mapStartup
          fun u => { u with carrierDone := true })
    exact ⟨_, ⟨exec_homing_bad live move bad, keys, settings, inputs⟩, carrier, mech, fault, stage,
      strikes, line, notice, tone⟩
  · have run := exec_homing_good live move isGood
    simp only [State.carrierHomed, recovering, if_true] at run
    exact ⟨_, ⟨⟨run, rfl, ⟨rfl, rfl⟩, rfl⟩, rfl⟩, rfl, ⟨rfl, rfl, rfl, rfl, rfl, rfl, rfl⟩, rfl, rfl⟩
  · have run := exec_homing_good live move isGood
    simp only [State.carrierHomed, recovering, Bool.false_eq_true, if_false] at run
    rw [mapStartup_none (by exact startup), checkReady_none (by exact startup)] at run
    exact ⟨_, ⟨⟨run, rfl, ⟨rfl, rfl⟩, rfl⟩, rfl⟩, rfl, ⟨rfl, rfl, rfl, rfl, rfl, rfl, rfl⟩⟩
  · have run := exec_homing_good live move isGood
    simp only [State.carrierHomed, recovering, Bool.false_eq_true, if_false] at run
    let v : State := { s with
      carrier := ⟨x, s.carrier.known, 0, .none⟩,
      seq := { s.seq with startup := some { p with carrierDone := true } } }
    have mapped : ({ s with carrier := ⟨x, s.carrier.known, 0, .none⟩ } : State).mapStartup
        (fun u => { u with carrierDone := true }) = v := by
      simp [State.mapStartup, startup, v]
    rw [mapped] at run
    split
    next parts =>
      rw [checkReady_ready (s := v) (p := { p with carrierDone := true }) rfl starting
        (partsEnded_iff.mpr ⟨rfl, parts⟩)] at run
      exact ⟨_, ⟨⟨run, rfl, ⟨rfl, rfl⟩, rfl⟩, rfl⟩, rfl, rfl, rfl, rfl⟩
    next waits =>
      rw [checkReady_waits (s := v) (p := { p with carrierDone := true }) rfl
        (fun ready => waits (partsEnded_iff.mp ready.2).2)] at run
      exact ⟨_, ⟨⟨run, rfl, ⟨rfl, rfl⟩, rfl⟩, rfl⟩, rfl, rfl, rfl⟩

/-- Settles O36: the three steps of a homing as their commands end them. -/
theorem homingFindsPositionZero : Obligations.HomingFindsPositionZero := by
  intro s live
  refine ⟨fun move => ?_, fun move => ?_, fun move => ?_⟩
  · change (if (s.live && decide (s.carrier.move = .homing .offSwitch)) = true then _ else _) = _
    rw [live, move]
    rfl
  · change (if (s.live && decide (s.carrier.move = .homing .search)) = true then _ else _) = _
    rw [live, move]
    rfl
  · have run : exec .carrierHomeSearchLimit s = .next ((({ s with carrier := { s.carrier with
        pos := s.carrier.pos - Config.markLimit } } : State).carrierHomeFailed).conclude s) := by
      change (if (s.live && decide (s.carrier.move = .homing .search)) = true then _ else _) = _
      rw [live, move]
      rfl
    obtain ⟨mech, fault, _, _, strikes, line, _, settings, _, carrier, _, _, _, notice, _⟩ :=
      takeFault_leaves .carrierHome (({ s with carrier :=
        ⟨s.carrier.pos - Config.markLimit, false, 0, .none⟩ } : State).mapStartup
          fun u => { u with carrierDone := true })
    exact ⟨_, run, congrArg Carrier.known carrier, congrArg Carrier.move carrier, mech, fault,
      strikes, line, notice, settings⟩

end Sys2Proof.Machine
end

section
/-! What the Text Engine and the Spelling Unit leave of the mechanism when an event's edits settle: the
mechanism state, the halt causes, the fault, the drives, the ribbon, the hammer's pulse and the heat account
(R14, R72, R137, R143). -/

namespace Sys2Proof.Machine

variable {s t : State}

/-- The fields of the mechanism that no edit of the text writes. -/
structure Works where
  mech : Mech
  causes : List HaltCause
  fault : Option FaultCode
  testStrike : Option Entry
  leaving : Bool
  carrier : Carrier
  wheel : Wheel
  platen : Platen
  ribbon : RibbonTape
  heat : Nat
  pulse : Option Nat

/-- The works of a state. -/
def State.works (s : State) : Works :=
  { mech := s.seq.mech, causes := s.seq.causes, fault := s.seq.fault, testStrike := s.seq.testStrike,
    leaving := s.seq.leaving, carrier := s.carrier, wheel := s.wheel, platen := s.platen,
    ribbon := s.ribbon, heat := s.hammer.heat, pulse := s.hammer.pulse }

/-- The mechanism state and the causes of a state whose works are known. -/
theorem works_mech (h : t.works = s.works) : t.seq.mech = s.seq.mech ∧ t.seq.causes = s.seq.causes := by
  simp only [State.works, Works.mk.injEq] at h
  obtain ⟨mech, causes, _⟩ := h
  exact ⟨mech, causes⟩

theorem foldl_works {α : Type} (f : State → α → State) (h : ∀ s a, (f s a).works = s.works)
    (l : List α) (s : State) : (l.foldl f s).works = s.works := by
  induction l generalizing s with
  | nil => rfl
  | cons a l ih => rw [List.foldl_cons, ih, h]

/-! ## Release runs -/

@[simp] theorem appendGroup_works (es) : (s.appendGroup es).works = s.works := by
  unfold State.appendGroup
  split <;> rfl
@[simp] theorem raise_works (k d) : (s.raise k d).works = s.works := rfl
@[simp] theorem requestTone_works (k r) : (s.requestTone k r).works = s.works := rfl
@[simp] theorem click_works : s.click.works = s.works := rfl
@[simp] theorem startRun_works (k e) : (s.startRun k e).works = s.works := rfl
@[simp] theorem noteR23_works : s.noteR23.works = s.works := rfl
@[simp] theorem mapCell_works (i f) : (s.mapCell i f).works = s.works := rfl
@[simp] theorem setCursor_works (c) : (s.setCursor c).works = s.works := by
  simp [State.works]
@[simp] theorem removeCell_works (i) : (s.removeCell i).works = s.works := by
  simp [State.works]
@[simp] theorem insertCell_works (i c) : (s.insertCell i c).works = s.works := by
  simp [State.works]
@[simp] theorem nextLine_works : s.nextLine.works = s.works := by
  simp [State.works]
@[simp] theorem reopen_works : s.reopen.works = s.works := by simp [State.works]
@[simp] theorem bellAfter_works (e) : (s.bellAfter e).works = s.works := by
  unfold State.bellAfter
  simp only
  split <;> rfl
theorem replace_works (h : s.replace = some t) : t.works = s.works := by
  obtain rfl | ⟨cells, _, rfl, _⟩ := replace_cases h <;> rfl
@[simp] theorem releaseCell_works (c) : (s.releaseCell c).works = s.works := by
  unfold State.releaseCell
  simp only
  repeat' split
  all_goals simp
@[simp] theorem raiseDropped_works (a b) : (s.raiseDropped a b).works = s.works := rfl
@[simp] theorem appendCarry_works (c) : (s.appendCarry c).works = s.works := by
  unfold State.appendCarry
  simp only
  repeat' split
  all_goals simp
@[simp] theorem appendAllCarry_works : s.appendAllCarry.works = s.works := by
  have appended := foldl_works (fun s c => State.appendCarry c s) (fun s c => appendCarry_works c)
    s.text.carry s
  simp only [State.appendAllCarry, setCursor_works]
  exact appended
@[simp] theorem endRun_works : s.endRun.works = s.works := rfl
@[simp] theorem returnEnding_works : s.returnEnding.works = s.works :=
  appendGroup_works [s.returnEntry]
@[simp] theorem wrapEnding_works : s.wrapEnding.works = s.works := by
  simp [State.wrapEnding]
@[simp] theorem runStep_works (r) : (s.runStep r).works = s.works := by
  unfold State.runStep
  simp only
  repeat' split
  all_goals simp
@[simp] theorem runLoop_works (n) : (s.runLoop n).works = s.works := by
  induction n generalizing s with
  | zero => rfl
  | succ n ih =>
    unfold State.runLoop
    split
    · exact ih.trans (runStep_works _)
    · rfl
@[simp] theorem runExamine_works : s.runExamine.works = s.works := runLoop_works _

/-! ## Corrections and erases -/

@[simp] theorem withdraw_works (p) : (s.withdraw p).works = s.works := by
  unfold State.withdraw
  simp only
  split <;> rfl
@[simp] theorem withdrawCell_works (c) : (s.withdrawCell c).works = s.works := withdraw_works _
@[simp] theorem takeBack_works (i c) : (s.takeBack i c).works = s.works := by
  unfold State.takeBack
  repeat' split
  all_goals simp
@[simp] theorem refuseLift_works (a c) : (s.refuseLift a c).works = s.works := rfl
@[simp] theorem liftOff_works (i c) : (s.liftOff i c).works = s.works := by simp [State.liftOff]
theorem undoReturn_works {g} (undone : s.undoReturn g = some t) : t.works = s.works := by
  unfold State.undoReturn State.withdrawReturn at undone
  repeat' split at undone
  all_goals cases undone
  all_goals simp

/-- Neither way a correction can end touches the works. -/
def Correction.Leaves (k : Works) : Correction → Prop
  | .acts t => t.works = k
  | .waits => True
  | .refused t => t.works = k

@[simp] theorem Correction.leaves_acts {k} : (Correction.acts t).Leaves k ↔ t.works = k := Iff.rfl
@[simp] theorem Correction.leaves_waits {k} : Correction.waits.Leaves k := trivial
@[simp] theorem Correction.leaves_refused {k} : (Correction.refused t).Leaves k ↔ t.works = k :=
  Iff.rfl

theorem deletePending_leaves (i) : (s.deletePending i).Leaves s.works := by
  unfold State.deletePending
  split
  · simp
  · next u replaced =>
    have same : u.works = s.works := (replace_works replaced).trans (removeCell_works i)
    split <;> simp [same]
theorem correctAt_leaves (i c) : (s.correctAt i c).Leaves s.works := by
  unfold State.correctAt
  split
  · exact deletePending_leaves i
  all_goals repeat' split
  all_goals simp
theorem correctReturned_leaves : s.correctReturned.Leaves s.works := by
  unfold State.correctReturned
  split
  · simp
  · simp only
    split
    · trivial
    · trivial
    · split
      · trivial
      · split
        · next u undone => simp [undoReturn_works undone]
        · trivial
    all_goals
      split
      · simp
      · split
        · next u undone =>
          have same : u.reopen.works = s.works := reopen_works.trans (undoReturn_works undone)
          exact same ▸ correctAt_leaves _ _
        · trivial
theorem correction_leaves : s.correction.Leaves s.works := by
  unfold State.correction
  split
  · exact correctReturned_leaves
  · split
    · simp
    · split
      · exact correctAt_leaves _ _
      · simp
@[simp] theorem endErase_works : s.endErase.works = s.works := rfl
@[simp] theorem eraseLoop_works (n) : (s.eraseLoop n).works = s.works := by
  induction n generalizing s with
  | zero => rfl
  | succ n ih =>
    unfold State.eraseLoop
    split
    · rfl
    · split
      · rfl
      · have corrected := correction_leaves (s := s)
        split
        next u acts => exact ih.trans (by simpa [acts] using corrected)
        next => rfl
        next u refused => exact (endErase_works (s := u)).trans (by simpa [refused] using corrected)
@[simp] theorem eraseContinue_works : s.eraseContinue.works = s.works := by
  unfold State.eraseContinue
  split
  · exact eraseLoop_works _
  · rfl

/-! ## Spelling -/

@[simp] theorem dropWordMessage_works (i) : (s.dropWordMessage i).works = s.works := by
  unfold State.dropWordMessage
  repeat' split
  all_goals rfl
@[simp] theorem cancelRecord_works (r) : (s.cancelRecord r).works = s.works := by
  unfold State.cancelRecord
  simp only
  split
  · rw [dropWordMessage_works]
    rfl
  · rfl
@[simp] theorem recordRun_works (r) : (s.recordRun r).works = s.works := by
  unfold State.recordRun
  split
  · rfl
  · simp only
    repeat' split
    all_goals rfl
@[simp] theorem spellingStep_works (b c) : (s.spellingStep b c).works = s.works := by
  unfold State.spellingStep
  split
  · rfl
  · exact (foldl_works _ (fun _ r => recordRun_works r) _ _).trans
      (foldl_works _ (fun _ r => cancelRecord_works r) _ _)

/-- The settling of an event's edits leaves the works. -/
@[simp] theorem textSettle_works (l b) : (s.textSettle l b).works = s.works := by
  simp [State.textSettle]

end Sys2Proof.Machine
end

section
/-! Proofs about the wheel's notches, the condition inputs, the cover and the sensing of the cartridges
(R83 to R85, R96 to R98, R108, R109, R119). -/

namespace Sys2Proof.Machine

variable {s u : State} {e : Entry} {n : Nat}

/-! ## Notches (R97, R98) -/

/-- A failed read that is not the third goes on. -/
theorem readInvalid_goes {next : Ident} (few : s.wheel.failedReads < 2) : s.readInvalid next =
    { s with wheel := { s.wheel with failedReads := s.wheel.failedReads + 1, ident := next } } :=
  if_neg (by omega)

/-- What the third failed read leaves: WHEEL_ID, and no wheel. -/
theorem readInvalid_fails {next : Ident} (many : 2 ≤ s.wheel.failedReads) :
    let t := s.readInvalid next
    t.wheel = { s.wheel with
      failedReads := s.wheel.failedReads + 1, ident := .idle, holding := none, present := false } ∧
    t.seq.mech = .fault ∧ t.seq.fault = some .wheelId ∧ t.inputs.coverIdent = false ∧
    t.notices.rows.fault = s.notices.rows.fault.occur [4] ∧ t.line = s.line ∧
    t.strikes = s.strikes ∧ t.keys = s.keys ∧ t.spell = s.spell ∧ s.sameSettings t ∧
    t.carrier = s.carrier := by
  intro t
  let v : State := ({ s with
    wheel := { s.wheel with
      failedReads := s.wheel.failedReads + 1, ident := .idle, holding := none, present := false },
    inputs := { s.inputs with coverIdent := false } } : State).mapStartup
      fun u => { u with wheelDone := true }
  have fails : t = v.takeFault .wheelId := if_pos (by omega)
  obtain ⟨mech, fault, _, _, strikes, line, keys, settings, inputs, carrier, wheel, _, spell, notice,
    _⟩ := takeFault_leaves .wheelId v
  rw [fails]
  exact ⟨wheel, mech, fault, congrArg Inputs.coverIdent inputs, notice, line, strikes, keys, spell,
    settings, carrier⟩

theorem exec_edge_held {w : Nat} (live : s.live = true) (ident : s.wheel.ident ≠ .idle)
    (empty : s.wheel.holding = none) : exec (.notchTrailingEdge w) s = .next { s with
      wheel := { s.wheel with ident := s.wheel.ident.noteWidth w, holding := some w } } := by
  change execNotchTrailingEdge w s = _
  simp [execNotchTrailingEdge, live, ident, empty]
theorem exec_edge_overrun {w v : Nat} {vs : List Bool} (live : s.live = true)
    (ident : s.wheel.ident = .reading vs) (full : s.wheel.holding = some v) :
    exec (.notchTrailingEdge w) s = .next ((({ s with
      wheel := { s.wheel with holding := none } } : State).readInvalid (.searching false)).conclude
        s) := by
  change execNotchTrailingEdge w s = _
  simp [execNotchTrailingEdge, live, ident, full, State.overrun, Ident.noteWidth]
theorem exec_classified {v : Nat} (live : s.live = true) (ident : s.wheel.ident ≠ .idle)
    (full : s.wheel.holding = some v) : exec .notchClassified s = .next ((({ s with
      wheel := { s.wheel with holding := none } } : State).classified (notchClass v)).conclude s) := by
  change execNotchClassified s = _
  simp [execNotchClassified, live, ident, full]

theorem notchClass_glitch {v : Nat} (h : v ≤ 1) : notchClass v = .glitch := if_pos h
theorem notchClass_narrow {v : Nat} (h : 4 ≤ v ∧ v ≤ 9) : notchClass v = .narrow := by
  have : ¬ v ≤ 1 := by omega
  simp [notchClass, this, h]
theorem notchClass_wide {v : Nat} (h : 12 ≤ v ∧ v ≤ 20) : notchClass v = .wide := by
  have : ¬ v ≤ 1 := by omega
  have : ¬ v ≤ 9 := by omega
  simp [notchClass, *]
theorem notchClass_home {v : Nat} (h : 28 ≤ v ∧ v ≤ 40) : notchClass v = .home := by
  have : ¬ v ≤ 1 := by omega
  have : ¬ v ≤ 9 := by omega
  have : ¬ v ≤ 20 := by omega
  simp [notchClass, *]
theorem notchClass_home_iff {v : Nat} : notchClass v = .home ↔ 28 ≤ v ∧ v ≤ 40 := by
  refine ⟨fun home => ?_, notchClass_home⟩
  unfold notchClass at home
  repeat' split at home
  all_goals simp_all
theorem notchClass_invalid {v : Nat} (glitch : ¬ v ≤ 1) (narrow : ¬ (4 ≤ v ∧ v ≤ 9))
    (wide : ¬ (12 ≤ v ∧ v ≤ 20)) (home : ¬ (28 ≤ v ∧ v ≤ 40)) : notchClass v = .invalid := by
  simp only [notchClass, glitch, Bool.and_eq_true, decide_eq_true_eq, narrow, wide, home, if_false]

/-- A data notch that is not the fourth joins the read. -/
theorem dataNotch_joins {vs : List Bool} (b : Bool) (few : vs.length < 3) : s.dataNotch vs b =
    { s with wheel := { s.wheel with ident := .reading (vs ++ [b]) } } :=
  if_neg (by simp; omega)

/-- A search leaves every notch but a home notch. -/
theorem classified_searching {seen : Bool} {k : NotchClass} (ident : s.wheel.ident = .searching seen)
    (other : k ≠ .home) : s.classified k = s := by
  cases k <;> simp_all [State.classified]

/-- Settles O42: the holding, and then each class of R97's table. -/
theorem notchesAreHeldAndClassified : Obligations.NotchesAreHeldAndClassified := by
  intro s w live taken fails kept goesOn wheelId invalid
  have goes (c : Instr) (wheel : Wheel)
      (run : exec c s = .next (({ s with wheel := wheel } : State).conclude s)) : goesOn c wheel :=
    ⟨_, ⟨run, rfl, rfl, rfl, rfl, ⟨rfl, rfl⟩, rfl⟩, rfl⟩
  have judged (c : Instr) (wheel : Wheel) (next : Ident)
      (reads : wheel.failedReads = s.wheel.failedReads) (empty : wheel.holding = none)
      (run : exec c s =
        .next ((({ s with wheel := wheel } : State).readInvalid next).conclude s)) :
      invalid c wheel next := by
    refine ⟨fun few => ?_, fun many => ?_⟩
    · rw [readInvalid_goes (by exact reads ▸ few)] at run
      refine goes c _ (run.trans ?_)
      simp only [reads]
      rfl
    · obtain ⟨wheelIs, mech, fault, ident, notice, line, strikes, keys, spell, settings, carrier⟩ :=
        readInvalid_fails (s := { s with wheel := wheel }) (next := next) (by exact reads ▸ many)
      refine ⟨_, ⟨run, line, strikes, keys, spell, settings, carrier⟩, ?_, mech, fault, ident, notice⟩
      rw [wheelIs, ← empty, reads]
  refine ⟨fun ident empty => ⟨_, exec_edge_held live ident empty, rfl, rfl,
      ⟨rfl, rfl, rfl, rfl, rfl, rfl, rfl⟩, ⟨rfl, rfl⟩, rfl, rfl⟩,
    fun vs v ident full => judged _ _ _ rfl rfl (exec_edge_overrun live ident full),
    fun seen v ident full => ?_, fun vs v ident full => ?_⟩
  · have run := exec_classified live (by simp [ident]) full
    split
    next home =>
      refine goes _ _ (run.trans ?_)
      simp [notchClass_home home, State.classified, ident, State.homeNotch, taken]
    next other =>
      rw [classified_searching (by exact ident) (mt notchClass_home_iff.mp other)] at run
      exact goes _ _ run
  · have run := exec_classified live (by simp [ident]) full
    have classes (k : NotchClass) (is : notchClass v = k) : exec .notchClassified s =
        .next ((({ s with wheel := taken } : State).classified k).conclude s) := is ▸ run
    split
    next glitch =>
      refine goes _ _ ((classes _ (notchClass_glitch glitch)).trans ?_)
      simp [State.classified, taken, ident]
    next glitch =>
    split
    next narrow =>
      intro few
      refine goes _ _ ((classes _ (notchClass_narrow narrow)).trans ?_)
      simp [State.classified, taken, ident, dataNotch_joins _ few]
    next narrow =>
    split
    next wide =>
      intro few
      refine goes _ _ ((classes _ (notchClass_wide wide)).trans ?_)
      simp [State.classified, taken, ident, dataNotch_joins _ few]
    next wide =>
    split
    next home =>
      refine judged _ _ _ rfl rfl ((classes _ (notchClass_home home)).trans ?_)
      simp [State.classified, taken, ident, State.homeNotch]
    next home =>
      refine judged _ _ _ rfl rfl ((classes _ (notchClass_invalid glitch narrow wide home)).trans ?_)
      simp [State.classified, taken, ident]

/-! ## Sensing (R119) -/

/-- The fields that the end of an event keeps of the drives, the inputs and the ribbon. -/
theorem conclude_drives (u o : State) : (u.conclude o).inputs = u.inputs ∧
    (u.conclude o).wheel.id = u.wheel.id ∧ (u.conclude o).ribbon.kind = u.ribbon.kind ∧
    (u.conclude o).ribbon.tape = u.ribbon.tape ∧
    (u.conclude o).ribbon.sensing = u.ribbon.sensing := by
  obtain ⟨tr, sa, ba, kept⟩ := conclude_kept u o
  simp only [State.kept, Kept.mk.injEq] at kept
  obtain ⟨_, _, _, _, _, _, inputs, _, _, _, _, id, _, _, _, _, _, _, kind, tape, sensing, _⟩ := kept
  exact ⟨inputs, id, kind, tape, sensing⟩

/-- The end of a sensing writes the kinds, the cover's work and what READY brings. -/
theorem sensingEnds_eq (c : Contacts) (s : State) : ∃ l t q p d n, s.sensingEnds c = { s with
    ribbon := { s.ribbon with kind := ribbonOf c, tape := tapeOf c, sensing := none },
    inputs := { s.inputs with coverSense := false },
    line := l, text := t, seq := q, spell := p, display := d, notices := n } := by
  obtain ⟨l, t, q, p, d, n, ready⟩ := checkReady_eq (({ s with
    ribbon := { s.ribbon with kind := ribbonOf c, tape := tapeOf c, sensing := none },
    inputs := { s.inputs with coverSense := false } } : State).mapStartup
      fun u => { u with sensingDone := true })
  exact ⟨l, t, q, p, d, n, ready⟩

/-- Settles O46: a sample ends the sensing or is counted. -/
theorem sensingSetsKinds : Obligations.SensingSetsKinds := by
  intro s x c live sensing agreeing
  have over_iff : (x.sample c).over = true ↔ 4 ≤ agreeing ∨ 50 ≤ x.taken + 1 := by
    rw [Sensing.over, Bool.or_eq_true, decide_eq_true_eq, decide_eq_true_eq]
    exact Iff.rfl
  have run : exec (.sensingSample c) s = if (x.sample c).over
      then .next ((s.sensingEnds c).conclude s)
      else .next { s with ribbon := { s.ribbon with sensing := some (x.sample c) } } := by
    change execSensingSample c s = _
    simp [execSensingSample, sensing, live]
  by_cases ended : 4 ≤ agreeing ∨ 50 ≤ x.taken + 1
  · rw [if_pos (over_iff.mpr ended)] at run
    obtain ⟨l, t, q, p, d, n, senses⟩ := sensingEnds_eq c s
    obtain ⟨keys, settings, retained, _⟩ := conclude_leaves (s.sensingEnds c) s
    obtain ⟨inputs, id, kind, tape, sensed⟩ := conclude_drives (s.sensingEnds c) s
    rw [senses] at keys settings retained inputs id kind tape sensed run
    refine ⟨_, run, keys, ⟨settings, retained⟩, id, ?_⟩
    rw [if_pos ended]
    exact ⟨kind, tape, sensed, congrArg Inputs.coverSense inputs⟩
  · rw [if_neg (mt over_iff.mp ended)] at run
    refine ⟨_, run, rfl, ⟨rfl, rfl⟩, rfl, ?_⟩
    rw [if_neg ended]
    rfl

/-! ## Condition inputs (R108) -/

theorem get_set (i : Inputs) (k j : Input) (v : InputState) :
    (i.set k v).get j = if j = k then v else i.get j := by
  cases k <;> cases j <;> rfl

/-- What an opening cover writes before the entry is stopped, with the carrier it leaves (R84, R109). -/
def State.uncovered (c : Carrier) (s : State) : State :=
  { s with
    carrier := c
    wheel := { s.wheel with ident := .idle, holding := none, known := false }
    ribbon := { s.ribbon with sensing := none }
    inputs := { s.inputs with coverIdent := false, coverSense := false }
    seq := { s.seq with recovering := false } }

theorem stopWork_eq (d : Driven) (s : State) : ∃ c, s.stopWork d = s.uncovered c ∧
    ((∀ st, s.carrier.move ≠ .homing st) → c = s.carrier) := by
  unfold State.stopWork State.stopHoming
  cases move : s.carrier.move with
  | homing st => exact ⟨_, rfl, fun none => absurd rfl (none st)⟩
  | none => exact ⟨_, rfl, fun _ => rfl⟩
  | moving x => exact ⟨_, rfl, fun _ => rfl⟩

/-- What the stop of an entry can write. -/
theorem stopEntry_eq (d : Driven) (s : State) : ∃ c w p q h t dp, s.stopEntry d = { s with
    carrier := c, wheel := w, platen := p, seq := q, hammer := h, text := t, display := dp } := by
  unfold State.stopEntry
  by_cases leaving : s.seq.leaving = true
  · simp only [leaving, if_true]
    exact ⟨_, _, _, _, _, _, _, rfl⟩
  · simp only [leaving]
    by_cases stage : s.seq.stage = some .position <;> simp only [stage] <;> repeat' split
    all_goals exact ⟨_, _, _, _, _, _, _, rfl⟩

/-- A carrier that stops stands still, at the steps driven so far. -/
theorem stopCarrier_still (d : Driven) (s : State) : (s.stopCarrier d).carrier.move = .none := by
  unfold State.stopCarrier
  split
  next rest => exact rest
  next => rfl
theorem stopCarrier_moving {x : Nat} (d : Driven) (move : s.carrier.move = .moving x) :
    (s.stopCarrier d).carrier = ⟨if s.carrier.pos ≤ x
        then s.carrier.pos + min d.carrier (x - s.carrier.pos)
        else s.carrier.pos - min d.carrier (s.carrier.pos - x), s.carrier.known, 0, .none⟩ := by
  simp [State.stopCarrier, move, Carrier.stop, stoppedPos]

theorem wheel_stop_still (w : Wheel) (n : Nat) : (w.stop n).move = none := by
  unfold Wheel.stop
  split
  next => rfl
  next rest => exact rest
theorem wheel_stop_known (w : Wheel) (n : Nat) :
    (w.stop n).known = w.known ∧ (w.stop n).ident = w.ident := by
  unfold Wheel.stop
  split <;> exact ⟨rfl, rfl⟩
theorem wheel_stop_angle {w : Wheel} {a : Nat} (n : Nat) (move : w.move = some a) :
    (w.stop n).angle = stoppedAngle w.angle a n := by
  simp [Wheel.stop, move]
theorem platen_stop_still (p : Platen) (n : Nat) : (p.stop n).move = none := by
  unfold Platen.stop
  split
  next => rfl
  next rest => exact rest
theorem counterValue_inside {i : Int} (low : -2147483648 ≤ i) (high : i ≤ 2147483647) :
    counterValue i = i := if_pos ⟨low, high⟩
theorem platen_stop_counter {p : Platen} {m : PlatenMove} (n : Nat) (move : p.move = some m)
    (low : -2147483648 ≤ p.counter) (high : p.counter ≤ 2147483647)
    (targetLow : -2147483648 ≤ m.target) (targetHigh : m.target ≤ 2147483647) :
    (p.stop n).counter = if p.counter ≤ m.target then min m.target (p.counter + n)
      else max m.target (p.counter - n) := by
  simp only [Platen.stop, move]
  apply counterValue_inside <;> split <;> omega

/-- The stop of an entry, by its three cases (R84, R109, R193). -/
theorem stopEntry_leaving (d : Driven) (leaving : s.seq.leaving = true) :
    s.stopEntry d = (s.stopCarrier d).leaveAdjust := if_pos leaving
theorem stopEntry_entry (d : Driven) (leaving : s.seq.leaving = false)
    (waiting : s.seq.stage = some .position ∨ s.seq.stage = some .heatWait) :
    ∃ t : State, (t = if s.seq.stage = some .position then s.stopMotions d else s) ∧
      s.stopEntry d = { t with
        hammer := { s.hammer with request := none }
        seq :=
          if s.seq.testStrike.isSome
            then { s.seq with stage := none, inFlight := none, testStrike := none }
            else { s.seq with stage := none } } := by
  refine ⟨_, rfl, (if_neg (by simp [leaving])).trans ((if_pos (by simpa using waiting)).trans ?_)⟩
  by_cases position : s.seq.stage = some .position
  · rw [if_pos position]
    split <;> rfl
  · rw [if_neg position]
    split <;> rfl
theorem stopEntry_other (d : Driven) (leaving : s.seq.leaving = false)
    (other : ¬ (s.seq.stage = some .position ∨ s.seq.stage = some .heatWait)) :
    s.stopEntry d = s := by
  unfold State.stopEntry
  simp only [leaving, Bool.or_eq_true, decide_eq_true_eq, other, Bool.false_eq_true, if_false]

/-- An entry in POSITION is stopped with its motions. -/
theorem stopEntry_position (d : Driven) (leaving : s.seq.leaving = false)
    (stage : s.seq.stage = some .position) :
    (s.stopEntry d).carrier = (s.stopCarrier d).carrier ∧
      (s.stopEntry d).wheel = s.wheel.stop d.wheel ∧
      (s.stopEntry d).platen = s.platen.stop d.platen := by
  obtain ⟨t, is, stopped⟩ := stopEntry_entry d leaving (.inl stage)
  rw [if_pos stage] at is
  subst is
  rw [stopped]
  exact ⟨rfl, rfl, rfl⟩

/-- An entry of the queue that waits or moves is stopped unfired. -/
theorem stopEntry_waiting (d : Driven) (leaving : s.seq.leaving = false)
    (noTest : s.seq.testStrike = none)
    (stage : s.seq.stage = some .position ∨ s.seq.stage = some .heatWait) :
    (s.stopEntry d).seq = { s.seq with stage := none } ∧
      (s.stopEntry d).hammer = { s.hammer with request := none } := by
  obtain ⟨t, is, stopped⟩ := stopEntry_entry d leaving stage
  rw [stopped]
  exact ⟨by simp [noTest], rfl⟩

/-- The stop of an entry keeps the angle known flag and the identification. -/
theorem stopEntry_wheel (d : Driven) (s : State) :
    (s.stopEntry d).wheel.known = s.wheel.known ∧ (s.stopEntry d).wheel.ident = s.wheel.ident := by
  cases leaving : s.seq.leaving with
  | true =>
    rw [stopEntry_leaving d leaving]
    exact ⟨rfl, rfl⟩
  | false =>
    by_cases position : s.seq.stage = some .position
    · obtain ⟨_, wheel, _⟩ := stopEntry_position d leaving position
      rw [wheel]
      exact wheel_stop_known _ _
    · by_cases waiting : s.seq.stage = some .heatWait
      · obtain ⟨t, is, stopped⟩ := stopEntry_entry d leaving (.inr waiting)
        rw [if_neg position] at is
        rw [stopped, is]
        exact ⟨rfl, rfl⟩
      · rw [stopEntry_other d leaving (by simp [position, waiting])]
        exact ⟨rfl, rfl⟩

/-- What the closing cover begins. -/
theorem coverCloses_eq (s : State) : ∃ c q, s.coverCloses = { s with
    wheel := { s.wheel with ident := .searching false, failedReads := 0, holding := none },
    ribbon := { s.ribbon with sensing := some ⟨none, 0, 0⟩ },
    inputs := { s.inputs with coverIdent := true, coverSense := true },
    carrier := c, seq := q } ∧ q.mech = s.seq.mech := by
  unfold State.coverCloses
  simp only
  split <;> exact ⟨_, _, rfl, rfl⟩

/-- The state in which an input's qualified state has taken the raw level (R108). -/
def State.qualified (k : Input) (s : State) : State :=
  { s with
    inputs := s.inputs.set k ⟨(s.inputs.get k).raw, (s.inputs.get k).raw, false⟩ }

/-- An input that qualifies takes its raw level, and the change takes effect (R108, R109). -/
theorem exec_qualifies {k : Input} {d : Driven} (live : s.live = true)
    (timing : (s.inputs.get k).timing = true) : exec (.qualificationTimerExpiry k d) s = .next
      ((if (s.inputs.get k).raw = (s.inputs.get k).qualified
        then s.qualified k else (s.qualified k).qualifiedChange k d).conclude s) := by
  change execQualificationTimerExpiry k d s = _
  simp [execQualificationTimerExpiry, live, timing, State.qualified]

/-- The effect of a qualified change leaves the keys, the settings and every input's level. -/
theorem qualifiedChange_leaves (k : Input) (d : Driven) (s : State) :
    (s.qualifiedChange k d).keys = s.keys ∧ s.sameSettings (s.qualifiedChange k d) ∧
      ∀ j, (s.qualifiedChange k d).inputs.get j = s.inputs.get j := by
  cases k with
  | cover =>
    unfold State.qualifiedChange
    simp only
    split
    · obtain ⟨c, stops, _⟩ := stopWork_eq d s
      obtain ⟨c', w, p, q, h, t, dp, stopped⟩ := stopEntry_eq d (s.stopWork d)
      rw [State.coverOpens, stopped, stops]
      exact ⟨rfl, ⟨rfl, rfl⟩, fun j => by cases j <;> rfl⟩
    · obtain ⟨c, q, closes, _⟩ := coverCloses_eq s
      rw [closes]
      exact ⟨rfl, ⟨rfl, rfl⟩, fun j => by cases j <;> rfl⟩
  | hammerHome =>
    obtain ⟨q, h, r, l, tried⟩ := tryFire_eq s
    change s.tryFire.keys = _ ∧ s.sameSettings s.tryFire ∧ ∀ j, s.tryFire.inputs.get j = _
    rw [tried]
    exact ⟨rfl, ⟨rfl, rfl⟩, fun _ => rfl⟩
  | paper => exact ⟨rfl, ⟨rfl, rfl⟩, fun _ => rfl⟩
  | ribbonEnd => exact ⟨rfl, ⟨rfl, rfl⟩, fun _ => rfl⟩
  | tapeEnd => exact ⟨rfl, ⟨rfl, rfl⟩, fun _ => rfl⟩
  | carrierHome => exact ⟨rfl, ⟨rfl, rfl⟩, fun _ => rfl⟩

/-! ## Halts (R83 to R85) -/

theorem mem_causesNow (k : HaltCause) : k ∈ s.causesNow ↔ s.causePresent k = true := by
  have listed : k ∈ HaltCause.all := by cases k <;> decide
  simp [State.causesNow, listed]

theorem headLift_iff : s.strikes.entries.head?.map (·.kind) = some .lift ↔
    ∃ e rest, s.strikes.entries = e :: rest ∧ e.kind = .lift := by
  cases s.strikes.entries <;> simp

/-- The places at which the sequencer decides (R75). -/
theorem atBoundary_iff : s.atBoundary = true ↔ s.seq.mech = .idle ∨ s.seq.mech = .paused ∨
    s.seq.mech = .halted ∨ s.seq.mech = .running ∧ s.seq.stage = none ∧ s.seq.draining = false := by
  unfold State.atBoundary
  cases s.seq.mech <;> simp

/-- The fields that no decision at rest writes. -/
def State.Undriven (s t : State) : Prop :=
  t.strikes = s.strikes ∧ t.line = s.line ∧ t.keys = s.keys ∧ t.hammer = s.hammer ∧
    t.carrier = s.carrier ∧ t.wheel = s.wheel ∧ t.platen = s.platen ∧ s.sameSettings t

theorem decision_halts (boundary : s.atBoundary = true) (causes : s.causesNow ≠ []) :
    s.Undriven s.sequence ∧
      s.sequence.seq = { s.seq with mech := .halted, causes := s.causesNow } ∧
      s.sequence.notices.rows.halt =
        (if s.seq.mech ≠ .halted ∨ ∃ k ∈ s.causesNow, ¬ k ∈ s.seq.causes
          then s.notices.rows.halt.occur [causeByte s.causesNow] else s.notices.rows.halt) := by
  have joins : (decide (s.seq.mech ≠ .halted) || s.causesNow.any fun c => !s.seq.causes.contains c) =
      true ↔ s.seq.mech ≠ .halted ∨ ∃ k ∈ s.causesNow, ¬ k ∈ s.seq.causes := by simp
  rw [sequence_halted boundary causes]
  unfold State.toHalted
  by_cases joined : s.seq.mech ≠ .halted ∨ ∃ k ∈ s.causesNow, ¬ k ∈ s.seq.causes
  · simp only [joins.mpr joined, if_true, if_pos joined]
    exact ⟨⟨rfl, rfl, rfl, rfl, rfl, rfl, rfl, rfl, rfl⟩, rfl, rfl⟩
  · simp only [mt joins.mp joined, if_neg joined]
    exact ⟨⟨rfl, rfl, rfl, rfl, rfl, rfl, rfl, rfl, rfl⟩, rfl, rfl⟩

/-- The weights of the causes, written out (R185). -/
theorem weight_eq : HaltCause.weight = fun k => match k with
    | .coverOpen => 1 | .paperOut => 2 | .ribbonAbsent => 4 | .ribbonEnd => 8
    | .noWheel => 16 | .tapeAbsent => 32 | .tapeEnd => 64 := by
  funext k
  cases k <;> rfl

theorem decision_rests (boundary : s.atBoundary = true) (causes : s.causesNow = [])
    (rest : s.seq.pause = true ∨ s.strikes.entries = []) :
    s.Undriven s.sequence ∧
      s.sequence.seq = { s.seq with mech := if s.seq.pause then .paused else .idle, causes := [] } ∧
      s.sequence.notices.rows.cleared = (if s.seq.mech = .halted
        then s.notices.rows.cleared.occur [0x00] else s.notices.rows.cleared) := by
  have is : s.sequence = s.cleared.setMech (if s.seq.pause then .paused else .idle) := by
    cases pause : s.seq.pause with
    | true => exact sequence_paused boundary causes pause
    | false => exact sequence_idle boundary causes pause (by simpa [pause] using rest)
  rw [is]
  unfold State.cleared
  rw [← causes]
  by_cases halted : s.seq.mech = .halted
  · rw [if_pos halted, if_pos halted]
    exact ⟨⟨rfl, rfl, rfl, rfl, rfl, rfl, rfl, rfl, rfl⟩, rfl, rfl⟩
  · rw [if_neg halted, if_neg halted]
    exact ⟨⟨rfl, rfl, rfl, rfl, rfl, rfl, rfl, rfl, rfl⟩, rfl, rfl⟩

theorem decision_stays (off : s.atBoundary = false) :
    s.Undriven s.sequence ∧ s.sequence.seq = { s.seq with causes := s.causesNow } ∧
      s.sequence.notices = s.notices := by
  rw [sequence_off_boundary off]
  exact ⟨⟨rfl, rfl, rfl, rfl, rfl, rfl, rfl, rfl, rfl⟩, rfl, rfl⟩

/-- An event at rest that leaves the paper out halts the mechanism with that cause. -/
theorem concludes_halted {o : State}
    (mech : u.seq.mech = .idle ∨ u.seq.mech = .paused ∨ u.seq.mech = .halted)
    (paper : u.inputs.paper.qualified = true) :
    (u.conclude o).seq.mech = .halted ∧ .paperOut ∈ (u.conclude o).seq.causes := by
  let v := u.textSettle o.line o.spell.endClosed
  obtain ⟨mechIs, _⟩ := works_mech (textSettle_works (s := u) o.line o.spell.endClosed)
  have inputs : v.inputs = u.inputs := (Kept.fields (textSettle_kept (s := u) _ _)).2.2.2.2.2.2.1
  have out : .paperOut ∈ v.causesNow := by
    rw [mem_causesNow]
    exact (congrArg (fun i => i.paper.qualified) inputs).trans paper
  have boundary : v.atBoundary = true := by
    rw [atBoundary_iff, show v.seq.mech = _ from mechIs]
    obtain h | h | h := mech <;> simp [h]
  obtain ⟨_, seq, _⟩ := decision_halts boundary (List.ne_nil_of_mem out)
  rw [State.conclude, finish_seq, show v.sequence.seq = _ from seq]
  exact ⟨rfl, out⟩

/-- Settles O44: the inputs by their timers, and the decision by its causes. -/
theorem inputsAreQualified : Obligations.InputsAreQualified := by
  refine ⟨fun s k level live other => ?_, fun s k d live timing => ?_, fun s k => ?_, fun s => ?_,
    fun s d live paper mech => ?_⟩
  · have run : exec (.rawLevelChange k level) s = .next { s with
        inputs := s.inputs.set k ((s.inputs.get k).change level) } := by
      change execRawLevelChange k level s = _
      simp [execRawLevelChange, live, other]
    refine ⟨_, run, by rw [get_set, if_pos rfl]; rfl, fun j away => by rw [get_set, if_neg away], rfl⟩
  · have changed : ∃ u : State, exec (.qualificationTimerExpiry k d) s = .next (u.conclude s) ∧
        u.keys = s.keys ∧ s.sameSettings u ∧ ∀ j, u.inputs.get j = (s.qualified k).inputs.get j := by
      have run := exec_qualifies (d := d) live timing
      split at run
      · exact ⟨_, run, rfl, ⟨rfl, rfl⟩, fun _ => rfl⟩
      · exact ⟨_, run, qualifiedChange_leaves k d (s.qualified k)⟩
    obtain ⟨u, run, keys, ⟨settings, retained⟩, inputs⟩ := changed
    obtain ⟨keys', settings', retained', _⟩ := conclude_leaves u s
    obtain ⟨inputs', _⟩ := conclude_drives u s
    refine ⟨_, run, ?_, fun j away => ?_, keys'.trans keys, settings'.trans settings,
      retained'.trans retained⟩
    · rw [inputs', inputs, State.qualified, get_set, if_pos rfl]
    · rw [inputs', inputs, State.qualified, get_set, if_neg away]
  · rw [mem_causesNow]
    cases k <;> simp only [State.causePresent, Inputs.coverCause, Bool.or_eq_true, Bool.and_eq_true,
      decide_eq_true_eq, headLift_iff, Option.isNone_iff_eq_none, or_assoc, Bool.not_eq_true']
  · exact ⟨fun boundary causes =>
        weight_eq ▸ decision_halts (atBoundary_iff.mpr boundary) causes,
      fun boundary causes rest => decision_rests (atBoundary_iff.mpr boundary) causes rest,
      fun off => decision_stays (by simpa using mt atBoundary_iff.mp off)⟩
  · have timing : (s.inputs.get .paper).timing = true := congrArg InputState.timing paper
    have run := exec_qualifies (d := d) live timing
    rw [if_neg (by rw [show s.inputs.get .paper = _ from paper]; decide)] at run
    refine ⟨_, run, ?_⟩
    exact concludes_halted (by exact mech) (congrArg InputState.raw paper)

/-- Settles O45: the opening stops the entry, and the close begins its work. -/
theorem coverStopsTheEntry : Obligations.CoverStopsTheEntry := by
  intro s d live timing changed
  have run := exec_qualifies (k := .cover) (d := d) live timing
  rw [if_neg (by exact changed)] at run
  cases raw : s.inputs.cover.raw with
  | true =>
    have opens : (s.qualified .cover).qualifiedChange .cover d = (s.qualified .cover).coverOpens d := by
      simp [State.qualifiedChange, State.qualified, raw, Inputs.set, Inputs.get]
    refine ⟨_, run.trans (congrArg (fun u => Host.Outcome.next (State.conclude u s)) opens), ?_⟩
    obtain ⟨c, works, stays⟩ := stopWork_eq d (s.qualified .cover)
    rw [State.coverOpens, works]
    let l := (s.qualified .cover).uncovered c
    obtain ⟨known, ident⟩ := stopEntry_wheel d l
    obtain ⟨_, _, _, _, _, _, _, stopped⟩ := stopEntry_eq d l
    have fields : (l.stopEntry d).inputs.cover.qualified = true ∧ (l.stopEntry d).strikes = s.strikes ∧
        (l.stopEntry d).line = s.line ∧ (l.stopEntry d).ribbon.sensing = none := by
      rw [stopped]
      exact ⟨raw, rfl, rfl, rfl⟩
    obtain ⟨cover, strikes, line, sensing⟩ := fields
    refine ⟨by simp [Inputs.coverCause, l, cover], strikes, line,
      fun _ => ⟨known, ident, sensing, fun stage leaving => ?_, fun leaving still => ?_,
        fun stage leaving noTest => ?_⟩, fun closed => by simp at closed⟩
    · obtain ⟨carrier, wheel, platen⟩ := stopEntry_position (s := l) d leaving stage
      rw [carrier, wheel, platen]
      refine ⟨stopCarrier_still _ _, wheel_stop_still _ _, platen_stop_still _ _, fun x move => ?_,
        fun a move => wheel_stop_angle _ move, fun m move => platen_stop_counter _ move⟩
      obtain rfl : c = s.carrier :=
        stays fun st homing => by simp [State.qualified, move] at homing
      rw [stopCarrier_moving (s := l) d move]
      exact ⟨rfl, rfl, rfl⟩
    · rw [stopEntry_leaving (s := l) d leaving]
      refine ⟨stopCarrier_still d l, rfl, rfl, rfl, rfl, rfl, fun x move => ?_⟩
      obtain rfl : c = s.carrier := stays still
      have stops := stopCarrier_moving (s := l) d move
      exact ⟨congrArg Carrier.marks stops, congrArg Carrier.pos stops⟩
    · obtain ⟨seq, hammer⟩ := stopEntry_waiting (s := l) d leaving noTest stage
      rw [seq, hammer]
      exact ⟨rfl, rfl, rfl, rfl⟩
  | false =>
    have closes : (s.qualified .cover).qualifiedChange .cover d = (s.qualified .cover).coverCloses := by
      simp [State.qualifiedChange, State.qualified, raw, Inputs.set, Inputs.get]
    refine ⟨_, run.trans (congrArg (fun u => Host.Outcome.next (State.conclude u s)) closes), ?_⟩
    obtain ⟨c, q, is, mech⟩ := coverCloses_eq (s.qualified .cover)
    rw [is]
    exact ⟨by simp [Inputs.coverCause], rfl, rfl, by simp, fun _ => ⟨rfl, rfl, mech⟩⟩

end Sys2Proof.Machine
end

section
/-! Proofs about the placement of a whole line (R63 to R65). -/

namespace Sys2Proof.Machine

variable {s : State}

/-- The cells of a line without its trailing SPACE cells. -/
def trimmed (cells : List Cell) : List Cell := cells.rdropWhile fun c => c.kind = .space

theorem trimmed_space {cells : List Cell} {c : Cell} (space : c.kind = .space) :
    trimmed (cells ++ [c]) = trimmed cells := List.rdropWhile_concat_pos _ _ _ (by simpa)
theorem trimmed_other {cells : List Cell} {c : Cell} (other : c.kind ≠ .space) :
    trimmed (cells ++ [c]) = cells ++ [c] := List.rdropWhile_concat_neg _ _ _ (by simpa)
theorem trimmed_length (cells : List Cell) : (trimmed cells).length ≤ cells.length :=
  (List.rdropWhile_prefix _ cells).length_le

theorem removeCell_last {cells : List Cell} {c : Cell} (is : s.line.cells = cells ++ [c]) :
    (s.removeCell (s.line.cells.length - 1)).line.cells = cells := by
  simp [State.removeCell, is, List.eraseIdx_append_of_length_le]

theorem below_last {b n : Nat} (inside : b ≤ n + 1) : below n b = min b n := by
  unfold below
  split <;> omega

/-- What the dropped SPACE cells leave of the line: the cursor and the release boundary follow (R2, R15,
R63). -/
theorem dropTrailing_line (n : Nat) (s : State) (count : s.line.cells.length = n) :
    ∃ cells cursor run, (s.dropTrailing n).line =
        { s.line with cells := cells, cursor := cursor, run := run } ∧
      cells = trimmed s.line.cells ∧
      (s.line.cursor ≤ n → cursor = min s.line.cursor cells.length) ∧
      ∀ q, s.line.run = some q → q.b ≤ n → run = some { q with b := min q.b cells.length } := by
  induction n generalizing s with
  | zero =>
    have none := List.eq_nil_of_length_eq_zero count
    exact ⟨s.line.cells, s.line.cursor, s.line.run, rfl, by rw [none]; rfl, fun inside => by omega,
      fun q run inside => by rw [run, Nat.min_eq_left (count.symm ▸ inside)]⟩
  | succ n ih =>
    obtain ⟨cells, c, is⟩ := List.eq_nil_or_concat'
      s.line.cells |>.resolve_left (List.ne_nil_of_length_eq_add_one count)
    have length : cells.length = n := by simpa [is] using count
    unfold State.dropTrailing
    simp only [is, List.getLast?_concat]
    by_cases space : c.kind = .space
    · rw [if_pos space, ← is]
      have rest : (s.removeCell (s.line.cells.length - 1)).line.cells = cells := removeCell_last is
      obtain ⟨left, cursor, run, line, leftIs, cursorIs, runIs⟩ :=
        ih (s.removeCell (s.line.cells.length - 1)) (by rw [rest, length])
      have last : s.line.cells.length - 1 = n := by omega
      have short : left.length ≤ n := by rw [leftIs, rest, ← length]; exact trimmed_length _
      refine ⟨left, cursor, run, line, by rw [leftIs, rest, is, trimmed_space space],
        fun inside => ?_, fun q is inside => ?_⟩
      · rw [cursorIs] <;> simp only [State.removeCell, last, below_last inside] <;> omega
      · rw [runIs { q with b := below n q.b } (by simp [State.removeCell, last, is])] <;>
          simp only [below_last inside]
        · congr 2; omega
        · omega
    · rw [if_neg space, ← is]
      exact ⟨s.line.cells, s.line.cursor, s.line.run, rfl, by rw [is, trimmed_other space],
        fun inside => by omega, fun q run inside => by rw [run, Nat.min_eq_left (by omega)]⟩

theorem chainFrom_chained (x : Nat) (cells : List Cell) : chained x (chainFrom x cells) := by
  induction cells generalizing x with
  | nil => trivial
  | cons c cs ih => exact ⟨rfl, ih _⟩
theorem chainFrom_map {α : Type} (f : Cell → α) (h : ∀ (c : Cell) x, f { c with x := x } = f c)
    (x : Nat) (cells : List Cell) : (chainFrom x cells).map f = cells.map f := by
  induction cells generalizing x with
  | nil => rfl
  | cons c cs ih => simp [chainFrom, ih, h]

/-- Settles O53: the trailing SPACE cells go, then the line is chained from its start. -/
theorem wholeLineIsPlaced : Obligations.WholeLineIsPlaced := by
  intro s placed pending t left n l r start
  obtain ⟨cells, cursor, run, line, is, cursorIs, runIs⟩ :=
    dropTrailing_line s.line.cells.length s rfl
  have all : (s.line.cells.all fun c => c.state = .pending) = true := by simpa using pending
  have settings : (s.dropTrailing s.line.cells.length).settings = s.settings := by
    obtain ⟨_, _, _, same, _⟩ := dropTrailing_eq s.line.cells.length s
    rw [same]
  have result : t.line = { s.line with
      cursor := cursor, run := run,
      start := if 1560 < start + n then 1560 - n else start,
      cells := chainFrom (if 1560 < start + n then 1560 - n else start) left } := by
    obtain rfl : cells = left := is
    simp only [t, State.placeWhole, placed, all, Bool.and_self, if_true, line, settings]
    rfl
  rw [result]
  obtain rfl : cells = left := is
  exact ⟨chainFrom_chained _ _, chainFrom_map _ (fun _ _ => rfl) _ _,
    chainFrom_map _ (fun _ _ => rfl) _ _, rfl, cursorIs, runIs⟩

end Sys2Proof.Machine
end

section
/-! Proofs about the strike plans and the energy of a strike (R57 to R59, R111 to R113, R131). -/

namespace Sys2Proof.Machine

variable {s : State} {c : Cell} {e : Entry} {n : Nat}

/-! ## Targets and energies -/

theorem target_eq (x : Nat) (trim : Int) : target x trim =
    (if (x : Int) + trim < 0 then 0 else if 1559 < (x : Int) + trim then 1559
      else ((x : Int) + trim).toNat) := by
  unfold target
  simp only [Config.lastPosition]
  split
  next => omega
  next => split <;> omega

theorem energyIndex_eq (k p : Nat) (ribbon : Option RibbonKind) (trim : Int) :
    energyIndex k p ribbon trim =
      (let i := 6 + 3 * (k : Int) + 3 * ((p : Int) - 3) + ribbonTerm ribbon + trim
       if i < 1 then 1 else if 31 < i then 31 else i.toNat) := by
  unfold energyIndex baseEnergy
  simp only
  split
  next => omega
  next => split <;> omega

/-! ## LIFT groups (R113, R131) -/

theorem mem_liftPlan (member : e ∈ s.liftPlan c) : ∃ x code, e = s.liftStrike c x code := by
  have glyphs (code : Byte) (member : e ∈ s.liftStrike c c.x code ::
      (if c.bold then [s.liftStrike c (c.x + 1) code] else [])) :
      ∃ x code, e = s.liftStrike c x code := by
    obtain rfl | bold := List.mem_cons.mp member
    · exact ⟨_, _, rfl⟩
    · split at bold
      · exact ⟨_, _, List.mem_singleton.mp bold⟩
      · exact absurd bold List.not_mem_nil
  have unders (member : e ∈ if c.underline then
      (s.underscoresOf c).map fun x => s.liftStrike c x underscoreCode else []) :
      ∃ x code, e = s.liftStrike c x code := by
    split at member
    · obtain ⟨x, _, rfl⟩ := List.mem_map.mp member
      exact ⟨_, _, rfl⟩
    · exact absurd member List.not_mem_nil
  unfold State.liftPlan at member
  simp only at member
  split at member
  · split at member
    · exact glyphs _ member
    · exact (List.mem_append.mp member).elim (glyphs _) unders
  · exact unders member

theorem liftStrike_energy {x : Nat} {code : Byte} (recorded : c.energy = some n) :
    (s.liftStrike c x code).energy = some (liftEnergy s.ribbon.tape n) := by
  simp [State.liftStrike, State.strike, recorded]

/-! ## Lengths -/

theorem underscoresOf_length (narrow : c.e ≤ 36) : (s.underscoresOf c).length ≤ 5 := by
  obtain ⟨_, widths, _, _, _⟩ := underscoresCoverTheCell
  exact underscoreXs_length_le _ (widths _ _).2.1 narrow

theorem releasePlan_length (narrow : c.e ≤ 36) : (s.releasePlan c).length ≤ 7 := by
  have unders : (s.underStrikes c).length ≤ 5 := by
    unfold State.underStrikes
    split <;> simp [underscoresOf_length narrow]
  unfold State.releasePlan
  split
  · have : (s.glyphStrikes .print c (c.code.getD 0)).length ≤ 2 := by
      unfold State.glyphStrikes
      split <;> simp
    simp only [List.length_append]
    omega
  all_goals simp; try omega

theorem liftPlan_length (narrow : c.e ≤ 36) : (s.liftPlan c).length ≤ 7 := by
  have short := underscoresOf_length (s := s) narrow
  unfold State.liftPlan
  simp only
  repeat' split
  all_goals simp; try omega

/-- Settles O51: each plan is its strikes and then its underscores. -/
theorem liftEntriesCarryOneEnergy : Obligations.LiftEntriesCarryOneEnergy := by
  refine ⟨fun s c n e recorded member => ?_, fun s c => ?_⟩
  · obtain ⟨x, code, rfl⟩ := mem_liftPlan member
    rw [liftStrike_energy recorded]
    refine ⟨rfl, fun tape => ?_, fun tape => ?_⟩ <;> rw [tape]
    · exact congrArg some (Nat.min_def ..)
    · rfl
  · intro index onPaper entry glyph unders under
    have indexed (code : Byte) : index code = s.energyOf code := by
      rw [State.energyOf, energyIndex_eq]
      simp only [index]
      cases s.ribbon.kind with
      | none => rfl
      | some kind => cases kind <;> rfl
    have struck (kind : EntryKind) (x n : Nat) (code : Byte) :
        entry kind s.wheel.id x n code = s.strike kind c x n code := by
      simp [entry, State.strike, State.targetOf, target_eq, onPaper, Entry.plain, State.petalOf]
    have glyphIs (kind : EntryKind) (code : Byte) : glyph kind code = s.glyphStrikes kind c code := by
      simp only [glyph, struck, indexed, State.glyphStrikes, boldEnergy]
    have underIs : under = s.underStrikes c := by
      simp only [under, unders, struck, indexed]
      rfl
    refine ⟨?_, fun code => ⟨(glyphIs _ _).symm, ?_⟩, fun code kind is => ?_, fun kind => ?_,
      fun n w tape recorded wheel tapeIs => ?_, fun narrow =>
        ⟨releasePlan_length narrow, liftPlan_length narrow⟩⟩
    · rw [underIs, glyphIs]
      unfold State.releasePlan
      cases c.kind <;> rfl
    · unfold State.overPlan State.glyphStrikes
      split <;> simp
    · rw [indexed]
      simp [State.recordedEnergy, kind, is]
    · rw [indexed]
      simp [State.recordedEnergy, kind, underscoreCode]
    · intro lift lifts
      have lifted (x : Nat) (code : Byte) : lift x code = s.liftStrike c x code := by
        cases tape <;> simp [lift, entry, liftEnergy, tapeIs, State.liftStrike, State.strike,
          State.targetOf, target_eq, onPaper, Entry.plain, State.petalOf, recorded, wheel]
      simp only [lifts, lifted, unders]
      unfold State.liftPlan
      cases c.kind <;> rfl

end Sys2Proof.Machine
end

section
/-! Proofs about the groups of the Strike Queue: the marks and identities of an append, and a withdrawal
(R69, R71, R72). -/

namespace Sys2Proof.Machine

variable {s : State}

theorem number_getElem? (n i : Nat) (es : List Entry) :
    (number n es)[i]? = es[i]?.map fun e => { e with id := n + i } := by
  induction es generalizing n i with
  | nil => rfl
  | cons e es ih =>
    cases i with
    | zero => rfl
    | succ i => simp [number, ih, Nat.add_right_comm n 1 i, Nat.add_assoc]

theorem markLast_getElem? (i : Nat) (es : List Entry) :
    (markLast es)[i]? = es[i]?.map fun e => { e with last := decide (i + 1 = es.length) } := by
  induction es generalizing i with
  | nil => rfl
  | cons e es ih =>
    cases es with
    | nil => cases i <;> simp [markLast]
    | cons d es =>
      cases i with
      | zero => simp [markLast]
      | succ i => simp [markLast, ih]

/-- An entry of a group carries the first mark where it is the first, and the last mark where it is the
last (R71). -/
theorem markGroup_getElem? (i : Nat) (es : List Entry) : (markGroup es)[i]? = es[i]?.map fun e =>
    { e with first := decide (i = 0), last := decide (i + 1 = es.length) } := by
  have marked := markLast_getElem? i (es.map fun e => { e with first := false })
  unfold markGroup
  split
  next none => simp_all
  next e rest some =>
    rw [some] at marked
    cases i with
    | zero =>
      cases es with
      | nil => simp at marked
      | cons d es => simp_all
    | succ i => simpa [Function.comp_def] using marked

/-- What an append makes of the entries of a group. -/
theorem group_getElem? (n i : Nat) (es : List Entry) : (number n (markGroup es))[i]? =
    es[i]?.map fun e => { e with
      id := n + i, first := decide (i = 0), last := decide (i + 1 = es.length) } := by
  rw [number_getElem?, markGroup_getElem?, Option.map_map]
  rfl

/-- Settles O34: a withdrawal filters the queue, and an append marks and numbers the group. -/
theorem groupsGoAndComeWhole : Obligations.GroupsGoAndComeWhole := by
  refine ⟨fun s cell => ?_, fun s es => ?_⟩
  · obtain ⟨line, carrier, wheel, platen, heat, pulse, settings, retained⟩ :=
      withdraw_frame (s := s) fun e => e.cell = some cell
    have entries : (s.withdrawCell cell).strikes.entries =
        s.strikes.entries.filter fun e => !decide (e.cell = some cell) := withdraw_entries _
    refine ⟨?_, fun d => ?_, ?_, line, carrier, wheel, platen, heat, pulse, settings, retained⟩
    · simp [State.groupOf, entries]
    · simp [entries]
    · rw [entries, State.groupOf, Nat.add_comm]
      exact (List.length_eq_length_filter_add _).symm
  · split
    next fits =>
      obtain ⟨room, few⟩ := fits
      have room : s.strikes.entries.length + es.length ≤ 32 := by
        simp only [State.strikeFree, Config.strikePlaces] at room
        omega
      rw [appendGroup_fits room]
      refine ⟨_, rfl, by simp, fun i d is => ?_, List.ext_getElem? fun i => ?_⟩
      · rw [group_getElem?] at is
        obtain ⟨e, _, rfl⟩ := Option.map_eq_some_iff.mp is
        simp
      · rw [List.getElem?_map, group_getElem?, List.getElem?_map, Option.map_map]
        rfl
    next full =>
      intro t _ few
      rw [show t = s from appendGroup_full ?_]
      simp only [State.strikeFree, Config.strikePlaces] at full
      omega

end Sys2Proof.Machine
end

section
/-! Proofs about the word keys: the target, and what ACCEPT_WORD and ADD_WORD do to it (R155, R156). -/

namespace Sys2Proof.Machine

variable {s u : State} {r : WordRecord} {e : KeyEntry}

/-! ## The target (R155) -/

/-- A record that the word keys may take. -/
def WordRecord.free (q : WordRecord) : Prop := q.state = .unknown ∧ q.accepted = false

theorem openWord_iff : r.openWord = true ↔ r.free := by
  simp [WordRecord.openWord, WordRecord.free]

/-- The target is the last record that is free, or none is. -/
def State.LastFree (s : State) : Prop :=
  match s.wordTarget with
  | some r => ∃ before after, s.spell.table = before ++ r :: after ∧ r.free ∧ ∀ q ∈ after, ¬ q.free
  | none => ∀ q ∈ s.spell.table, ¬ q.free

theorem lastFree_of (is : s.wordTarget = (s.spell.table.filter WordRecord.openWord).getLast?) :
    s.LastFree := by
  unfold State.LastFree
  rw [is]
  cases target : (s.spell.table.filter WordRecord.openWord).getLast? with
  | none =>
    intro q member free
    have none := List.filter_eq_nil_iff.mp (List.getLast?_eq_none_iff.mp target) q member
    exact none (openWord_iff.mpr free)
  | some r =>
    rw [← List.head?_reverse, ← List.filter_reverse, List.head?_filter, List.find?_eq_some_iff_append]
      at target
    obtain ⟨free, after, before, table, others⟩ := target
    refine ⟨before.reverse, after.reverse, ?_, openWord_iff.mp free, fun q member => ?_⟩
    · rw [← List.reverse_reverse s.spell.table, table]
      simp
    · have other := others q (List.mem_reverse.mp member)
      rw [← openWord_iff]
      simpa using other

/-- A record with a PENDING cell. -/
def State.HasPending (s : State) (q : WordRecord) : Prop :=
  ∃ c ∈ s.line.cells, c.state = .pending ∧ c.wordId = some q.id

theorem record_of_mem (distinct : (s.spell.table.map (·.id)).Nodup) (member : r ∈ s.spell.table) :
    s.spell.record r.id = some r := by
  unfold Spelling.record
  rw [List.find?_eq_some_iff_append]
  refine ⟨by simp, ?_⟩
  obtain ⟨before, after, table⟩ := List.append_of_mem member
  refine ⟨before, after, table, fun q other => ?_⟩
  rw [table, List.map_append, List.nodup_append] at distinct
  obtain ⟨_, _, apart⟩ := distinct
  have differ := apart q.id (List.mem_map_of_mem other) r.id (by simp)
  simpa using differ

/-- In HOLD a free record is kept back where it has a PENDING cell (R154). -/
theorem recordKept_of_record (hold : s.effMode = .hold) (is : s.spell.record r.id = some r)
    (free : r.free) : s.recordKept r = true ↔ s.HasPending r := by
  obtain ⟨unknown, accepted⟩ := free
  have holds : (s.spell.record r.id).map WordRecord.holds = some true := by
    simp [is, WordRecord.holds, unknown, accepted]
  unfold State.recordKept State.HasPending
  rw [List.any_eq_true]
  constructor
  · rintro ⟨i, _, kept⟩
    cases at_i : s.line.cells[i]? with
    | none => simp [at_i] at kept
    | some c =>
      simp [at_i, State.keptBack] at kept
      exact ⟨c, List.mem_of_getElem? at_i, kept.2.1.2, kept.1⟩
  · rintro ⟨c, there, pending, word⟩
    obtain ⟨i, inside, is⟩ := List.getElem_of_mem there
    refine ⟨i, List.mem_range.mpr inside, ?_⟩
    simp [List.getElem?_eq_getElem inside, is, State.keptBack, hold, pending, word, holds]
theorem recordKept_iff (hold : s.effMode = .hold) (distinct : (s.spell.table.map (·.id)).Nodup)
    (member : r ∈ s.spell.table) (free : r.free) : s.recordKept r = true ↔ s.HasPending r :=
  recordKept_of_record hold (record_of_mem distinct member) free

theorem effMode_eq (spell : s.settings.spell = .hold) (mode : s.settings.mode ≠ .direct) :
    s.effMode = .hold := by
  unfold State.effMode
  rw [spell]
  cases is : s.settings.mode <;> simp_all

theorem wordTarget_hold (hold : s.effMode = .hold) (distinct : (s.spell.table.map (·.id)).Nodup) :
    ((∃ q ∈ s.spell.table, q.free ∧ s.HasPending q) → ∃ r before after, s.wordTarget = some r ∧
      s.spell.table = before ++ r :: after ∧ r.free ∧ s.HasPending r ∧
      ∀ q ∈ before, ¬ (q.free ∧ s.HasPending q)) ∧
    ((∀ q ∈ s.spell.table, ¬ (q.free ∧ s.HasPending q)) → s.LastFree) := by
  have kept_iff (q : WordRecord) (member : q ∈ s.spell.table) :
      (q.openWord && s.recordKept q) = true ↔ q.free ∧ s.HasPending q := by
    rw [Bool.and_eq_true, openWord_iff]
    exact and_congr_right fun free => recordKept_iff hold distinct member free
  cases found : s.spell.table.find? fun r => r.openWord && s.recordKept r with
  | none =>
    rw [List.find?_eq_none] at found
    refine ⟨fun ⟨q, member, kept⟩ => absurd ((kept_iff q member).mpr kept) (found q member),
      fun _ => lastFree_of ?_⟩
    simp [State.wordTarget, hold, List.find?_eq_none.mpr found]
  | some r =>
    have target : s.wordTarget = some r := by simp [State.wordTarget, hold, found]
    have first := List.find?_eq_some_iff_append.mp found
    obtain ⟨kept, before, after, table, others⟩ := first
    have member : r ∈ s.spell.table := by simp [table]
    obtain ⟨free, pending⟩ := (kept_iff r member).mp kept
    refine ⟨fun _ => ⟨r, before, after, target, table, free, pending, fun q other => ?_⟩,
      fun none => absurd ⟨free, pending⟩ (none r member)⟩
    have not := others q other
    rw [← kept_iff q (by simp [table, other])]
    exact fun kept => by simp [kept] at not

theorem wordTarget_free (target : s.wordTarget = some r) : r ∈ s.spell.table ∧ r.free := by
  have last (is : (s.spell.table.filter WordRecord.openWord).getLast? = some r) :
      r ∈ s.spell.table ∧ r.free := by
    obtain ⟨member, free⟩ := List.mem_filter.mp (List.mem_of_getLast? is)
    exact ⟨member, openWord_iff.mp free⟩
  unfold State.wordTarget at target
  simp only at target
  split at target
  · cases target
  · exact last target
  · split at target
    next q found =>
      obtain rfl := Option.some.inj target
      have kept := List.find?_some found
      simp only [Bool.and_eq_true] at kept
      exact ⟨List.mem_of_find?_eq_some found, openWord_iff.mp kept.1⟩
    next => exact last target

/-! ## Acceptance -/

/-- A record accepted by its id. -/
def acceptIn (ids : List Nat) (q : WordRecord) : WordRecord :=
  if q.id ∈ ids then { q with accepted := true } else q

theorem dropWordMessage_eq (i : Nat) (s : State) :
    ∃ d, s.dropWordMessage i = { s with display := d } := by
  unfold State.dropWordMessage
  split
  · split <;> exact ⟨_, rfl⟩
  · exact ⟨_, rfl⟩

theorem accept_eq (r : WordRecord) (s : State) : ∃ d, s.accept r = { s with
    spell := { s.spell with table := s.spell.table.map fun q =>
      if q.id = r.id then { q with accepted := true } else q }
    display := d } := by
  obtain ⟨d, dropped⟩ := dropWordMessage_eq r.id { s with
    spell := { s.spell with table := s.spell.table.map fun q =>
      if q.id = r.id then { q with accepted := true } else q } }
  exact ⟨d, dropped⟩

theorem acceptAll_eq (rs : List WordRecord) (s : State) :
    ∃ d, rs.foldl (fun s q => s.accept q) s = { s with
      spell := { s.spell with table := s.spell.table.map (acceptIn (rs.map (·.id))) }
      display := d } := by
  induction rs generalizing s with
  | nil =>
    have same : acceptIn [] = id := funext fun q => if_neg (by simp)
    exact ⟨s.display, by simp [same]⟩
  | cons r rs ih =>
    obtain ⟨d, accepted⟩ := accept_eq r s
    obtain ⟨d', rest⟩ := ih (s.accept r)
    refine ⟨d', ?_⟩
    rw [List.foldl_cons, rest, accepted]
    simp only [List.map_map]
    congr 3
    funext q
    by_cases same : q.id = r.id <;> by_cases other : q.id ∈ rs.map (·.id) <;>
      simp_all [acceptIn]

/-- What ADD_WORD does to the User Word List, before it accepts (R156, R157). -/
def State.wordListed (r : WordRecord) (s : State) : State :=
  if s.retained.words.contains (r.letters.getD []) then s
  else if Config.wordPlaces ≤ s.retained.words.length then s.click.raiseSpell 2 r
  else s.setWords (s.retained.words ++ [r.letters.getD []])

/-- The word is refused: the list is full and does not hold it. -/
def State.listFull (r : WordRecord) (s : State) : Prop :=
  48 ≤ s.retained.words.length ∧ ¬ r.letters.getD [] ∈ s.retained.words

theorem wordListed_refused (full : s.listFull r) : s.wordListed r = s.click.raiseSpell 2 r := by
  obtain ⟨long, out⟩ := full
  rw [State.wordListed, if_neg (by simpa using out), if_pos (by exact long)]

theorem wordListed_taken (room : ¬ s.listFull r) : s.wordListed r = { s with
    retained := { s.retained with
      words :=
        if r.letters.getD [] ∈ s.retained.words ∨ 48 ≤ s.retained.words.length then s.retained.words
        else s.retained.words ++ [r.letters.getD []] } } := by
  unfold State.wordListed
  by_cases stands : r.letters.getD [] ∈ s.retained.words
  · rw [if_pos (by simpa using stands), if_pos (.inl stands)]
  · have short : ¬ 48 ≤ s.retained.words.length := fun long => room ⟨long, stands⟩
    rw [if_neg (by simpa using stands), if_neg (by exact short), if_neg (not_or.mpr ⟨stands, short⟩)]
    rfl

/-- The records that ADD_WORD accepts with its target. -/
def State.likeWords (r : WordRecord) (s : State) : List WordRecord :=
  s.spell.table.filter fun q => q.openWord && (q.id = r.id || q.letters = r.letters)

theorem mem_likeWords {q : WordRecord} : q ∈ s.likeWords r ↔
    q ∈ s.spell.table ∧ q.free ∧ (q.id = r.id ∨ q.letters = r.letters) := by
  simp [State.likeWords, openWord_iff]

/-- ADD_WORD lists its target's word and accepts the records like it. -/
theorem addTarget_eq (r : WordRecord) (s : State) :
    ∃ l d, s.addTarget r = { l with
      spell := { s.spell with
        table := s.spell.table.map (acceptIn ((s.likeWords r).map (·.id))) }
      display := d } ∧ l = s.wordListed r := by
  have spell : (s.wordListed r).spell = s.spell := by
    unfold State.wordListed
    repeat' split
    all_goals rfl
  obtain ⟨d, all⟩ := acceptAll_eq ((s.wordListed r).likeWords r) (s.wordListed r)
  have likes : (s.wordListed r).likeWords r = s.likeWords r := by rw [State.likeWords, spell]; rfl
  rw [spell, likes] at all
  exact ⟨_, d, (congrArg (List.foldl _ _) likes).trans all, rfl⟩

/-- Where ids are distinct, the records accepted are those that are UNKNOWN and like the target. -/
theorem acceptIn_likeWords {q : WordRecord} (distinct : (s.spell.table.map (·.id)).Nodup)
    (member : q ∈ s.spell.table) : acceptIn ((s.likeWords r).map (·.id)) q =
      if q.state = .unknown ∧ (q.id = r.id ∨ q.letters = r.letters) then { q with accepted := true }
      else q := by
  have accepts : q.id ∈ (s.likeWords r).map (·.id) ↔ q ∈ s.likeWords r := by
    refine ⟨fun like => ?_, List.mem_map_of_mem⟩
    obtain ⟨p, like, same⟩ := List.mem_map.mp like
    have there := (mem_likeWords.mp like).1
    exact List.inj_on_of_nodup_map distinct there member same ▸ like
  unfold acceptIn
  by_cases like : q ∈ s.likeWords r
  · obtain ⟨_, ⟨unknown, _⟩, same⟩ := mem_likeWords.mp like
    rw [if_pos (accepts.mpr like), if_pos ⟨unknown, same⟩]
  · rw [if_neg (mt accepts.mp like)]
    split
    next is =>
      obtain ⟨unknown, same⟩ := is
      have accepted : q.accepted = true := by
        by_contra not
        exact like (mem_likeWords.mpr ⟨member, ⟨unknown, by simpa using not⟩, same⟩)
      rw [← accepted]
    next => rfl

/-- Settles O32: the target by the mode, then what the two keys write. -/
theorem wordKeysPassWords : Obligations.WordKeysPassWords := by
  refine ⟨fun s => ⟨fun off => ?_, fun mode => ?_, fun hold typing distinct =>
    wordTarget_hold (effMode_eq hold typing) distinct⟩, fun s e _ => ⟨fun c key absent => ?_,
    fun r target => ⟨fun taken => ?_, fun taken => ?_⟩⟩⟩
  · have mode : s.effMode = .off := by simp [State.effMode, off]
    simp [State.wordTarget, mode]
  · refine lastFree_of ?_
    have mode : s.effMode = .alert := by
      obtain alert | ⟨hold, direct⟩ := mode
      · simp [State.effMode, alert]
      · simp [State.effMode, hold, direct]
    simp [State.wordTarget, mode]
  · have absent : s.takeHead.wordTarget = none := absent
    obtain ⟨taken, rfl⟩ | ⟨taken, rfl⟩ := key
    all_goals
      refine exec_takes rfl taken ?_
      simp only [absent]
      rfl
  · obtain ⟨d, accepted⟩ := accept_eq r s.takeHead
    have target : s.takeHead.wordTarget = some r := target
    refine ⟨s.takeHead.accept r, exec_takes rfl taken (by simp only [target]), ?_⟩
    rw [accepted]
    exact ⟨rfl, rfl, rfl, ⟨rfl, rfl, rfl, rfl, rfl, rfl, rfl⟩, ⟨rfl, rfl⟩, rfl⟩
  · have target : s.takeHead.wordTarget = some r := target
    obtain ⟨l, d, added, listed⟩ := addTarget_eq r s.takeHead
    obtain ⟨keys, settings, retained, _⟩ := conclude_leaves (s.takeHead.addTarget r) s
    refine ⟨_, s.takeHead.addTarget r, exec_takes rfl taken (by simp only [target]), rfl, ?_⟩
    rw [keys, settings, retained, added]
    obtain ⟨member, free⟩ := wordTarget_free target
    have target_like : r.id ∈ (s.likeWords r).map (·.id) :=
      List.mem_map_of_mem (mem_likeWords.mpr ⟨member, free, .inl rfl⟩)
    have accepts (q : WordRecord) (accepted : q ∈ s.spell.table.map
        (acceptIn ((s.likeWords r).map (·.id)))) (is : q.id = r.id) : q.accepted = true := by
      obtain ⟨p, _, rfl⟩ := List.mem_map.mp accepted
      have same : p.id = r.id := by
        unfold acceptIn at is
        split at is <;> exact is
      rw [acceptIn, if_pos (same ▸ target_like)]
    have equal (distinct : (s.spell.table.map (·.id)).Nodup) :=
      List.map_congr_left fun q member => acceptIn_likeWords (r := r) (q := q) distinct member
    by_cases full : s.listFull r
    · rw [listed, wordListed_refused (s := s.takeHead) full]
      refine ⟨rfl, (if_pos (.inr full.1)).symm, ?_, equal, fun q there is _ => accepts q there is,
        rfl, rfl, rfl, rfl⟩
      exact (if_pos full).mpr ⟨rfl, rfl⟩
    · rw [listed, wordListed_taken (s := s.takeHead) full]
      refine ⟨rfl, rfl, ?_, equal, fun q there is _ => accepts q there is, rfl, rfl, rfl, rfl⟩
      exact (if_neg full).mpr ⟨rfl, rfl⟩

end Sys2Proof.Machine
end

section
/-! Proofs about release runs and the hold (R8, R14, R15, R142, R154). -/

namespace Sys2Proof.Machine

variable {s : State} {c : Cell} {r : Run} {i : Nat}

/-! ## The release of a cell (R8) -/

/-- A cell as its release leaves it: STRUCK where it has no entries, else QUEUED. -/
def State.released (s : State) (c d : Cell) : Cell :=
  if s.releasePlan c = [] then { d with state := .struck, glyphs := 0 }
  else { d with state := .queued, wheelId := some s.wheel.id, energy := some (s.recordedEnergy d) }

theorem released_state (d : Cell) : (s.released c d).state ≠ .pending := by
  unfold State.released
  split <;> simp

/-- A cell whose group fits is released: its group joins the queue, and the cell is QUEUED or STRUCK. -/
theorem releaseCell_fits (fits : (s.releasePlan c).length ≤ s.strikeFree) :
    ∃ n t, s.releaseCell c = { s with
      strikes := ⟨s.strikes.entries ++ number s.strikes.nextId (markGroup (s.releasePlan c)), n⟩
      line := { s.line with
        cells := s.line.cells.map fun d => if d.id = c.id then s.released c d else d }
      text := t } := by
  unfold State.releaseCell State.released
  cases plan : s.releasePlan c with
  | nil =>
    refine ⟨s.strikes.nextId, if s.text.runWaits
      then { s.text with headDue := true, eraseDue := true } else s.text, ?_⟩
    cases waits : s.text.runWaits <;> simp [State.mapCell, markGroup, markLast, number, State.noteR23]
  | cons e es =>
    have room : s.strikes.entries.length + (e :: es).length ≤ 32 := by
      simp only [plan, State.strikeFree, Config.strikePlaces, List.length_cons] at fits ⊢
      omega
    refine ⟨s.strikes.nextId + (e :: es).length, if s.text.runWaits
      then { s.text with headDue := true, eraseDue := true } else s.text, ?_⟩
    simp only [List.isEmpty_cons, appendGroup_fits room]
    cases waits : s.text.runWaits <;> simp [State.mapCell, State.noteR23, waits]

/-! ## The status of a run (R14, R154) -/

theorem runStatus_blocked (run : s.line.run = some r) (below : s.line.firstPending < r.b)
    (kept : s.keptBack s.line.firstPending = true) (inside : s.line.firstPending < s.line.cells.length) :
    s.runStatus = .blocked := by
  unfold State.runStatus
  simp [run, List.getElem?_eq_getElem inside, below, kept]

theorem runStatus_ready (run : s.line.run = some r) (below : s.line.firstPending < r.b)
    (is : s.line.cells[s.line.firstPending]? = some c)
    (free : s.keptBack s.line.firstPending = false)
    (fits : (s.releasePlan c).length ≤ s.strikeFree) : s.runStatus = .ready := by
  unfold State.runStatus
  simp [run, is, below, free, fits]

/-- A run with nothing left below b and ending NONE is ready to end. -/
theorem runStatus_done (run : s.line.run = some r) (done : r.b ≤ s.line.firstPending)
    (ending : r.ending = .none) : s.runStatus = .ready := by
  unfold State.runStatus
  simp only [run]
  split <;> simp [ending, Nat.not_lt.mpr done]

theorem runLoop_steps {n : Nat} (run : s.line.run = some r) (ready : s.runStatus = .ready) :
    s.runLoop (n + 1) = (s.runStep r).runLoop n := by
  rw [State.runLoop]
  simp [run, ready]
theorem runLoop_stays (n : Nat) (stays : s.runStatus ≠ .ready) : s.runLoop n = s := by
  cases n with
  | zero => rfl
  | succ n =>
    unfold State.runLoop
    split
    next ready => exact absurd ready stays
    next => rfl

theorem runStep_releases (below : s.line.firstPending < r.b)
    (is : s.line.cells[s.line.firstPending]? = some c) : s.runStep r = s.releaseCell c := by
  simp [State.runStep, below, is]
theorem runStep_ends (done : r.b ≤ s.line.firstPending) (ending : r.ending = .none) :
    s.runStep r = s.endRun := by
  simp [State.runStep, Nat.not_lt.mpr done, ending]

/-- After the release of the first PENDING cell the next one lies behind it. -/
theorem released_firstPending (is : s.line.cells[s.line.firstPending]? = some c) :
    s.line.firstPending < (s.line.cells.map fun d =>
      if d.id = c.id then s.released c d else d).findIdx fun d => d.state = .pending := by
  obtain ⟨inside, is⟩ := List.getElem?_eq_some_iff.mp is
  refine List.lt_findIdx_of_not (by simpa using inside) fun j before => ?_
  rw [List.getElem_map]
  split
  · simpa using released_state _
  next other =>
    have ahead : j < s.line.firstPending := by
      refine Nat.lt_of_le_of_ne before fun same => other ?_
      subst same
      rw [is]
    simpa using List.not_of_lt_findIdx ahead

/-- The last cell of a run with ending NONE is released, and the run ends. -/
theorem runExamine_last (run : s.line.run = some ⟨s.line.firstPending + 1, .none⟩)
    (is : s.line.cells[s.line.firstPending]? = some c)
    (free : s.keptBack s.line.firstPending = false)
    (fits : (s.releasePlan c).length ≤ s.strikeFree) :
    s.runExamine = (s.releaseCell c).endRun.noteWaiting := by
  obtain ⟨n, t, releases⟩ := releaseCell_fits fits
  have behind := released_firstPending is
  have first : s.runStep ⟨s.line.firstPending + 1, .none⟩ = s.releaseCell c :=
    runStep_releases (Nat.lt_succ_self _) is
  have run' : (s.releaseCell c).line.run = some ⟨s.line.firstPending + 1, .none⟩ := by
    rw [releases]
    exact run
  have done : s.line.firstPending + 1 ≤ (s.releaseCell c).line.firstPending := by
    rw [releases]
    exact behind
  rw [State.runExamine, show 2 * Config.cellPlaces = 318 + 1 + 1 from rfl,
    runLoop_steps run (runStatus_ready run (Nat.lt_succ_self _) is free fits), first,
    runLoop_steps run' (runStatus_done run' done rfl), runStep_ends done rfl, runLoop_stays]
  simp [State.runStatus, State.endRun, State.noteR23]

/-- A run that is blocked is examined without effect, and does not count as waiting. -/
theorem runExamine_blocked (blocked : s.runStatus = .blocked) :
    s.runExamine = { s with text := { s.text with runWaits := false } } := by
  rw [State.runExamine, runLoop_stays _ (by simp [blocked])]
  simp [State.noteWaiting, blocked]

/-! ## The hold (R142, R154) -/

theorem keptBack_false (none : s.anyHeldWord = false) (closed : s.spell.endClosed = true) (i : Nat) :
    s.keptBack i = false := by
  have held (w : Nat) : ((s.spell.record w).map WordRecord.holds).getD false = false := by
    cases found : s.spell.record w with
    | none => rfl
    | some q =>
      have member : q ∈ s.spell.table := List.mem_of_find?_eq_some found
      simpa using List.any_eq_false.mp none q member
  have token : openToken s.line.cells s.spell.endClosed i = false := by
    unfold openToken
    split <;> simp [closed]
  unfold State.keptBack
  split
  · rfl
  · split <;> simp [held, token]

/-- Where SPACE cells are dropped from the end the last token stays closed. -/
theorem dropClosing_closes (last : s.line.cells.getLast? = some c) (space : c.kind = .space) :
    s.dropClosing.spell = { s.spell with endClosed := true } := by
  obtain ⟨cells, cursor, run, line, is, _⟩ := dropTrailing_line s.line.cells.length s rfl
  obtain ⟨l, t, d, dropped, _⟩ := dropTrailing_eq s.line.cells.length s
  have shorter : (s.dropTrailing s.line.cells.length).line.cells.length < s.line.cells.length := by
    obtain ⟨front, cellsAre⟩ := List.getLast?_eq_some_iff.mp last
    have short := trimmed_length front
    rw [line, is]
    simp only [cellsAre, trimmed_space space, List.length_append, List.length_singleton]
    omega
  rw [State.dropClosing]
  simp only [shorter, if_true]
  rw [dropped]

/-- Justification leaves the Spelling Unit as the dropped SPACE cells left it. -/
theorem justify_spell (mode : s.settings.mode = .line) (format : s.line.format = .justify)
    (wrapped : s.line.wrapped = true) (pending : ∀ d ∈ s.line.cells, d.state = .pending) :
    s.justify.spell = s.dropClosing.spell := by
  have all : (s.line.cells.all fun c => c.state = .pending) = true := by simpa using pending
  unfold State.justify
  simp only [mode, format, wrapped, all, decide_true, Bool.and_self, if_true]
  repeat' split
  all_goals rfl

/-- Settles O33: one step of a run, what blocks it, and the tokens a justification leaves. -/
theorem runReleasesCellsNotHeld : Obligations.RunReleasesCellsNotHeld := by
  refine ⟨⟨fun s c fits => ?_, fun s i c live run first is free fits => ?_⟩,
    fun s r run below inside kept => ?_, fun s i none closed => keptBack_false none closed i,
    fun s c mode format wrapped pending last space => ?_⟩
  · obtain ⟨n, t, releases⟩ := releaseCell_fits fits
    intro t
    rw [show t = _ from releases]
    exact ⟨rfl, rfl, ⟨rfl, rfl, rfl, rfl, rfl, rfl, rfl⟩, rfl, rfl⟩
  · subst first
    obtain ⟨n, t, releases⟩ := releaseCell_fits fits
    refine ⟨s.runExamine, ?_, ?_⟩
    · change execReleaseRunStep s = _
      simp [execReleaseRunStep, live]
    · rw [runExamine_last run is free fits, releases]
      exact ⟨rfl, rfl, rfl, ⟨rfl, rfl, rfl, rfl, rfl, rfl, rfl⟩, ⟨rfl, rfl⟩, rfl⟩
  · intro t
    have blocked := runStatus_blocked run below kept inside
    refine ⟨blocked, runExamine_blocked blocked, fun live => ?_⟩
    change execReleaseRunStep s = _
    simp [execReleaseRunStep, live, runExamine_blocked blocked, t]
  · rw [State.anyHeldWord, justify_spell mode format wrapped pending, dropClosing_closes last space]
    exact ⟨rfl, rfl⟩

end Sys2Proof.Machine
end

section
/-! Rules about making cells: re-placement where no aligned run is open, and what a key that makes a cell
leaves (R5, R26, R28, R45, R55). -/

namespace Sys2Proof.Machine

variable {s : State} {l : Line} {c : Cell} {as bs cs : List Cell} {i x w : Nat}

/-! ## Chains (R5) -/

theorem chained_append : chained x (as ++ bs) ↔ chained x as ∧ chained (x + width as) bs := by
  induction as generalizing x with
  | nil => simp [chained, width]
  | cons a as ih => simp [chained, ih, width, and_assoc, Nat.add_assoc]

@[simp] theorem width_append : width (as ++ bs) = width as + width bs := by simp [width]
@[simp] theorem width_cons : width (c :: cs) = c.e + width cs := by simp [width]
@[simp] theorem width_nil : width [] = 0 := rfl
@[simp] theorem width_chainFrom : width (chainFrom x cs) = width cs :=
  congrArg List.sum (chainFrom_map (·.e) (fun _ _ => rfl) x cs)

theorem endPos_eq (chain : l.Chained) : l.endPos = l.start + width l.cells := by
  unfold Line.endPos
  cases last : l.cells.getLast? with
  | none => simp [List.getLast?_eq_none_iff.mp last]
  | some c =>
    obtain ⟨front, is⟩ := List.getLast?_eq_some_iff.mp last
    have chain : chained l.start (front ++ [c]) := is ▸ chain
    obtain ⟨_, at_end, _⟩ := chained_append.mp chain
    simp [is, at_end, Nat.add_assoc]

/-! ## Re-placement (R55) -/

theorem openStop_none : c.openStop none = none := rfl

/-- A cell re-placed where it stands neither passes its stop nor changes. -/
theorem placeFrom_chained (chain : chained x as) :
    placeFrom none w x (as ++ bs) = (placeFrom none w (x + width as) bs).map (as ++ ·) := by
  induction as generalizing x with
  | nil => simp
  | cons a as ih =>
    obtain ⟨rfl, rest⟩ := chain
    have stays : a.passes none a.x = false := by simp [Cell.passes, openStop_none]
    have width : a.placedE none w a.x = a.e := by
      unfold Cell.placedE
      cases a.kind <;> simp [openStop_none]
    simp only [List.cons_append, placeFrom, stays, width, ih rest, width_cons, Nat.add_assoc]
    simp [Function.comp_def]

/-- Cells of which none is a TAB follow one another. -/
theorem placeFrom_plain (plain : ∀ b ∈ bs, b.kind ≠ .tab) :
    placeFrom none w x bs = some (chainFrom x bs) := by
  induction bs generalizing x with
  | nil => rfl
  | cons b bs ih =>
    obtain ⟨noTab, rest⟩ := List.forall_mem_cons.mp plain
    have stays : b.passes none x = false := by simp [Cell.passes, noTab]
    have width : b.placedE none w x = b.e := by
      unfold Cell.placedE
      cases kind : b.kind <;> simp_all
    simp [placeFrom, stays, width, ih rest, chainFrom]

/-- Re-placement keeps a chained front and lets the PENDING cells behind it follow. -/
theorem rechain_none (cells : l.cells = as ++ bs) (chain : chained l.start as)
    (plain : ∀ b ∈ bs, b.state = .pending ∧ b.kind ≠ .tab) :
    rechain none l = some (as ++ chainFrom (l.start + width as) bs) := by
  let p (c : Cell) : Bool := c.state ≠ .pending
  have none_released : bs.takeWhile p = [] := by
    cases bs with
    | nil => rfl
    | cons b bs => simp [p, (plain b List.mem_cons_self).1]
  have released : l.released = as.takeWhile p := by
    simp only [Line.released, cells]
    change List.takeWhile p (as ++ bs) = _
    rw [List.takeWhile_append, none_released]
    split
    next all => rw [List.append_nil, (List.takeWhile_prefix p).eq_of_length all]
    next => rfl
  have tail : l.tail = as.dropWhile p ++ bs := by
    have whole : l.released ++ l.tail = l.cells := List.takeWhile_append_dropWhile
    rw [released, cells, ← List.takeWhile_append_dropWhile (p := p) (l := as), List.append_assoc] at whole
    simpa using whole
  rw [← List.takeWhile_append_dropWhile (p := p) (l := as)] at chain
  obtain ⟨front, back⟩ := chained_append.mp chain
  have start : l.tailStart = l.start + width (as.takeWhile p) := by
    rw [Line.tailStart, released]
    exact endPos_eq (l := { l with cells := as.takeWhile p }) front
  rw [rechain, released, tail, start, placeFrom_chained back,
    placeFrom_plain fun b member => (plain b member).2]
  have widths : width (as.takeWhile p) + width (as.dropWhile p) = width as := by
    rw [← width_append, List.takeWhile_append_dropWhile]
  simp only [Option.map_some, ← List.append_assoc, List.takeWhile_append_dropWhile, Nat.add_assoc, widths]

/-! ## Cells made (R26, R28, R45) -/

theorem insertIdx_split {α : Type} {a : α} {as : List α} {i : Nat} (inside : i ≤ as.length) :
    as.insertIdx i a = as.take i ++ a :: as.drop i := by
  induction as generalizing i with
  | nil =>
    obtain rfl : i = 0 := by simpa using inside
    rfl
  | cons b bs ih =>
    cases i with
    | zero => rfl
    | succ i => simp [ih (by simpa using inside)]

/-- The state in which a cell has been made at an index, the cells behind it following. -/
def State.celled (i : Nat) (c : Cell) (s : State) : State :=
  (s.insertCell i c).setCells (s.line.cells.take i ++
    { c with id := s.text.nextCell } :: chainFrom (c.x + c.e) (s.line.cells.drop i))

theorem place_celled (aligned : s.text.aligned = none) (chain : s.line.Chained)
    (inside : i ≤ s.line.cells.length) (at_i : c.x = s.line.start + width (s.line.cells.take i))
    (after : ∀ b ∈ s.line.cells.drop i, b.state = .pending ∧ b.kind ≠ .tab)
    (fits : s.line.endPos + c.e ≤ s.limit) : s.place i c = some (s.celled i c) := by
  let new : Cell := { c with id := s.text.nextCell }
  have cells : (s.insertCell i c).line.cells = (s.line.cells.take i ++ [new]) ++ s.line.cells.drop i := by
    simp [State.insertCell, insertIdx_split inside, new]
  have split : chained s.line.start (s.line.cells.take i ++ s.line.cells.drop i) := by
    rw [List.take_append_drop]
    exact chain
  have front : chained s.line.start (s.line.cells.take i ++ [new]) :=
    chained_append.mpr ⟨(chained_append.mp split).1, at_i, trivial⟩
  have placed := rechain_none cells front after
  have result : s.line.cells.take i ++ [new] ++
      chainFrom (s.line.start + width (s.line.cells.take i ++ [new])) (s.line.cells.drop i) =
      (s.celled i c).line.cells := by
    simp [State.celled, new, at_i, Nat.add_assoc]
  have chained' : (s.celled i c).line.Chained := by
    change chained s.line.start (s.celled i c).line.cells
    rw [← result]
    exact chained_append.mpr ⟨front, chainFrom_chained _ _⟩
  have endsAt : (s.celled i c).line.endPos = s.line.endPos + c.e := by
    rw [endPos_eq chained', endPos_eq chain, ← result]
    have widths : width (s.line.cells.take i) + width (s.line.cells.drop i) = width s.line.cells := by
      rw [← width_append, List.take_append_drop]
    simp only [width_append, width_cons, width_nil, width_chainFrom, new]
    change s.line.start + _ = _
    omega
  unfold State.place
  simp only [State.insertCell_text, aligned]
  rw [show rechain none (s.insertCell i c).line = some (s.celled i c).line.cells from
    placed.trans (congrArg some result)]
  exact if_pos (endsAt.trans_le fits)

theorem bellAfter_eq (x : Nat) (s : State) :
    ∃ b tn, s.bellAfter x = { s with text := { s.text with bell := b }, tone := tn } := by
  unfold State.bellAfter
  simp only
  split <;> exact ⟨_, _, rfl⟩

/-- A key that makes a cell goes on from the line with that cell; the bell may be asked for. -/
theorem make_celled {code : Byte} {next : State → State} (aligned : s.text.aligned = none)
    (chain : s.line.Chained) (few : s.line.cells.length < 160) (inside : i ≤ s.line.cells.length)
    (at_i : c.x = s.line.start + width (s.line.cells.take i))
    (after : ∀ b ∈ s.line.cells.drop i, b.state = .pending ∧ b.kind ≠ .tab)
    (fits : s.line.endPos + c.e ≤ s.limit) : ∃ b tn, s.make code i c next = next { s.celled i c with
      text := { (s.celled i c).text with bell := b }, tone := tn } := by
  obtain ⟨b, tn, bell⟩ := bellAfter_eq s.line.endPos (s.celled i c)
  refine ⟨b, tn, ?_⟩
  unfold State.make
  rw [place_celled aligned chain inside at_i after fits]
  have room : s.line.full = false := by
    rw [Line.full, decide_eq_false_iff_not, Config.cellPlaces]
    omega
  simp only [room, bell]
  rfl

end Sys2Proof.Machine
end

section
/-! Proofs about the printing keys at the end of the line: SPACE, TAB and DECIMAL_TAB (R26, R30, R31, R38,
R52, R60). -/

namespace Sys2Proof.Machine

variable {s v : State} {c : Cell} {e : KeyEntry} {code : Byte} {i n : Nat}

/-! ## Widths (R50, R51) -/

theorem textUnits_le (code : Byte) : textUnits code ≤ 6 := by
  unfold textUnits
  simp only
  repeat' split
  all_goals omega

theorem glyphE_le (code : Byte) : s.glyphE code ≤ 36 := by
  have units := textUnits_le code
  unfold State.glyphE glyphWidth widthUnits
  cases s.pitch
  case ps =>
    simp only [EffPitch.unit]
    repeat' split
    all_goals omega
  all_goals exact Nat.le_of_ble_eq_true rfl

theorem spaceE_le : s.spaceE ≤ 36 := by
  unfold State.spaceE spaceWidth spaceUnits
  cases s.pitch
  case ps =>
    simp only [EffPitch.unit]
    split <;> omega
  all_goals exact Nat.le_of_ble_eq_true rfl

/-! ## Appended cells -/

/-- A release run that reaches no further than the cells is not moved by an append. -/
theorem celled_end (runs : ∀ r, s.line.run = some r → r.b ≤ s.line.cells.length) :
    (s.celled s.line.cells.length c).line = { s.line with
      cells := s.line.cells ++ [{ c with id := s.text.nextCell }],
      cursor := cursorAfter s.line.cells.length s.line.cursor } := by
  have run : (s.line.run.map fun r =>
      { r with b := if s.line.cells.length < r.b then r.b + 1 else r.b }) = s.line.run := by
    cases is : s.line.run with
    | none => rfl
    | some r => simp [Nat.not_lt.mpr (runs r is)]
  simp [State.celled, State.insertCell, State.setCells, chainFrom, run]

/-- What a key that makes a cell leaves besides the line. -/
theorem celled_leaves (i : Nat) (c : Cell) (s : State) : (s.celled i c).strikes = s.strikes ∧
    s.sameMechanism (s.celled i c) ∧ s.sameSettings (s.celled i c) ∧ (s.celled i c).keys = s.keys ∧
    (s.celled i c).notices = s.notices :=
  ⟨rfl, ⟨rfl, rfl, rfl, rfl, rfl, rfl, rfl⟩, ⟨rfl, rfl⟩, rfl, rfl⟩

/-- What a blank key that is taken at the end of a line leaves. -/
structure State.Appends (v : State) (c : Cell) (run : Option Run) (u : State) : Prop where
  line : u.line = { v.line with
    cells := v.line.cells ++ [{ c with id := v.text.nextCell }], cursor := v.line.cells.length + 1,
    run := run }
  strikes : u.strikes = v.strikes
  mechanism : v.sameMechanism u
  settings : v.sameSettings u
  keys : u.keys = v.keys
  notices : u.notices = v.notices

/-- What holds of a line to whose end a cell of a width can be appended. -/
structure State.Appendable (v : State) (c : Cell) : Prop where
  chain : v.line.Chained
  few : v.line.cells.length < 160
  aligned : v.text.aligned = none
  cursor : v.line.cursor = v.line.cells.length
  at_end : c.x = v.line.endPos
  fits : v.line.endPos + c.e ≤ v.limit
  runs : ∀ r, v.line.run = some r → r.b ≤ v.line.cells.length

theorem State.Appendable.place (h : v.Appendable c) :
    v.place v.line.cells.length c = some (v.celled v.line.cells.length c) :=
  place_celled h.aligned h.chain le_rfl (by rw [h.at_end, endPos_eq h.chain, List.take_length])
    (by simp) h.fits

/-- A cell appended, and what its key does next. -/
theorem State.Appendable.make (h : v.Appendable c) (code : Byte) (next : State → State) :
    ∃ u, v.make code v.line.cells.length c next = next u ∧ v.Appends c v.line.run u ∧
      u.text.aligned = none := by
  obtain ⟨b, tn, made⟩ := make_celled (code := code) (next := next) h.aligned h.chain h.few le_rfl
    (by rw [h.at_end, endPos_eq h.chain, List.take_length]) (by simp) h.fits
  obtain ⟨strikes, mechanism, settings, keys, notices⟩ := celled_leaves v.line.cells.length c v
  refine ⟨_, made, ⟨?_, strikes, mechanism, settings, keys, notices⟩, h.aligned⟩
  rw [celled_end h.runs, h.cursor]
  simp [cursorAfter]

/-- A release run is all that the next step of a key adds. -/
theorem State.Appends.startRun {u : State} {run : Option Run} (h : v.Appends c run u) (k : Nat) :
    v.Appends c (some (extendRun run k .none)) (u.startRun k .none) := by
  refine ⟨?_, h.strikes, h.mechanism, h.settings, h.keys, h.notices⟩
  simp [State.startRun, h.line]

/-- A SPACE or TAB appended: a terminator in WORD typing, released at once in DIRECT typing (R30, R31). -/
theorem appendBlank_appends (h : v.Appendable c) (code : Byte)
    (room : (v.releasePlan c).length ≤ v.strikeFree) :
    ∃ u, v.appendBlank code c = some u ∧ v.Appends c
      (if v.releasesAtOnce = true ∨ v.settings.mode = .word ∧ v.line.format.isPlaced = false
        then some (extendRun v.line.run (v.line.cells.length + 1) .none) else v.line.run) u := by
  have closed : v.closeAligned = v := by
    rw [State.closeAligned, ← h.aligned]
  unfold State.appendBlank
  simp only [closed, h.place, h.aligned]
  by_cases once : v.releasesAtOnce = true
  · rw [if_pos once, if_neg (by simp; omega)]
    refine ⟨_, rfl, ?_⟩
    obtain ⟨u, made, appends, _⟩ := h.make code State.releaseAll
    have cells : u.line.cells.length = v.line.cells.length + 1 := by simp [appends.line]
    rw [if_pos (.inl once), made, State.releaseAll, cells]
    exact appends.startRun _
  · have room : v.line.full = false := by
      rw [Line.full, decide_eq_false_iff_not, Config.cellPlaces]
      have := h.few
      omega
    rw [if_neg once]
    simp only [room]
    refine ⟨_, rfl, ?_⟩
    obtain ⟨u, made, appends, _⟩ := h.make code (State.terminate false v.line.cells.length)
    have mode : u.settings.mode = v.settings.mode := congrArg Settings.mode appends.settings.1
    have format : u.line.format = v.line.format := by rw [appends.line]
    change v.Appends c _ (v.make code _ c (State.terminate false v.line.cells.length))
    rw [made]
    by_cases ends : v.settings.mode = .word ∧ v.line.format.isPlaced = false
    · rw [if_pos (.inr ends)]
      have starts : u.terminate false v.line.cells.length = u.startRun (v.line.cells.length + 1) .none := by
        simp [State.terminate, mode, format, ends]
      rw [starts]
      exact appends.startRun _
    · rw [if_neg (by simp [once, ends])]
      have stays : u.terminate false v.line.cells.length = u := by
        simp only [State.terminate, mode, format, Bool.and_eq_true, decide_eq_true_eq,
          Bool.not_eq_true', ends]
        rfl
      rwa [stays]

/-! ## SPACE and TAB -/

theorem spaceOn_appends (h : v.Appendable (v.newCell .space none v.line.endPos v.spaceE))
    (noWrap : v.wraps = true → v.line.endPos + v.spaceE ≤ v.settings.right) (room : 9 ≤ v.strikeFree) :
    ∃ u, v.spaceOn e = some u ∧ v.Appends (v.newCell .space none v.line.endPos v.spaceE)
      (if v.releasesAtOnce = true ∨ v.settings.mode = .word ∧ v.line.format.isPlaced = false
        then some (extendRun v.line.run (v.line.cells.length + 1) .none) else v.line.run) u := by
  have plan : (v.releasePlan (v.newCell .space none v.line.endPos v.spaceE)).length ≤ 7 :=
    releasePlan_length spaceE_le
  obtain ⟨u, acts, appends⟩ := appendBlank_appends h e.code (by omega)
  refine ⟨u, ?_, appends⟩
  have stays : (v.wraps && decide (v.settings.right < v.line.endPos + v.spaceE)) = false := by
    cases wraps : v.wraps
    · rfl
    · simpa using noWrap wraps
  unfold State.spaceOn
  rw [liftingAtCursor_atEnd (le_of_eq h.cursor.symm), place_atEnd (le_of_eq h.cursor.symm)]
  change (if (v.wraps && decide (v.settings.right < v.line.endPos + v.spaceE)) = true
    then _ else _) = _
  rw [stays]
  exact acts

theorem tabOn_appends {w : Nat} (h : v.Appendable (v.newCell .tab none v.line.endPos w))
    (stop : v.findStop v.line.endPos = some (v.line.endPos + w)) :
    ∃ u, v.tabOn e = some u ∧ v.Appends (v.newCell .tab none v.line.endPos w)
      (if v.releasesAtOnce = true ∨ v.settings.mode = .word ∧ v.line.format.isPlaced = false
        then some (extendRun v.line.run (v.line.cells.length + 1) .none) else v.line.run) u := by
  obtain ⟨u, acts, appends⟩ := appendBlank_appends h e.code (Nat.zero_le _)
  refine ⟨u, ?_, appends⟩
  unfold State.tabOn
  rw [liftingAtCursor_atEnd (le_of_eq h.cursor.symm), place_atEnd (le_of_eq h.cursor.symm)]
  simp only [stop, Nat.add_sub_cancel_left]
  exact acts

/-! ## DECIMAL_TAB -/

/-- An aligned run opens on the TAB cell just made; in WORD typing the cells before it are released. -/
theorem openAligned_eq {stop : Nat} (is : s.line.cells[n]? = some c) : ∃ l,
    s.openAligned false n stop =
      { s with line := l, text := { s.text with aligned := some ⟨c.id, stop⟩ } } ∧
    l = { s.line with run :=
      if s.settings.mode = .word then some (extendRun s.line.run n .none) else s.line.run } := by
  refine ⟨_, ?_, rfl⟩
  unfold State.openAligned
  cases mode : s.settings.mode <;> simp [mode, is, State.startRun]

/-- The stop that R52 finds lies behind the end position. -/
theorem findStop_lt {x stop : Nat} (found : s.findStop x = some stop) : x < stop := by
  have meets := List.find?_some found
  simp only [Bool.and_eq_true, decide_eq_true_eq] at meets
  exact meets.1

theorem decimalOn_opens {stop : Nat}
    (h : v.Appendable (v.newCell .tab none v.line.endPos (stop - v.line.endPos)))
    (plain : v.line.format.isPlaced = false) (found : v.findStop v.line.endPos = some stop) :
    ∃ u t, v.decimalOn e = some t ∧
      v.Appends (v.newCell .tab none v.line.endPos (stop - v.line.endPos)) v.line.run u ∧
      ∃ l, t = { u with line := l, text := { u.text with aligned := some ⟨v.text.nextCell, stop⟩ } } ∧
        l = { u.line with run :=
          if v.settings.mode = .word then some (extendRun v.line.run v.line.cells.length .none)
          else v.line.run } := by
  have closed : v.closeAligned = v := by
    rw [State.closeAligned, ← h.aligned]
  obtain ⟨u, made, appends, _⟩ := h.make e.code (State.openAligned false v.line.cells.length stop)
  have last : u.line.cells[v.line.cells.length]? = some
      { v.newCell .tab none v.line.endPos (stop - v.line.endPos) with id := v.text.nextCell } := by
    simp [appends.line]
  obtain ⟨l, opens, line⟩ := openAligned_eq (stop := stop) last
  have mode : u.settings.mode = v.settings.mode := congrArg Settings.mode appends.settings.1
  have run : u.line.run = v.line.run := by rw [appends.line]
  rw [mode, run] at line
  refine ⟨u, _, ?_, appends, l, opens, line⟩
  unfold State.decimalOn
  have notFull : v.line.full = false := by
    rw [Line.full, decide_eq_false_iff_not, Config.cellPlaces]
    have := h.few
    omega
  rw [liftingAtCursor_atEnd (le_of_eq h.cursor.symm)]
  simp only [h.cursor, plain, found, closed, notFull, h.aligned, ← made]
  simp

/-- Settles O24: each key appends its cell, and the typing mode releases. -/
theorem blankKeysAppendCell : Obligations.BlankKeysAppendCell := by
  refine ⟨fun s e c k w state => ?_, fun s e stop taken state => ?_⟩
  · intro v n x key cell chain cursor few aligned fits noWrap room runs
    obtain ⟨taken, rfl, rfl, rfl⟩ | ⟨taken, rfl, rfl, stop⟩ := key
    · obtain ⟨u, acts, appends⟩ := spaceOn_appends (v := v) (e := e)
        ⟨chain, few, aligned, cursor, rfl, fits, runs⟩ noWrap room
      exact ⟨u, exec_acts rfl taken state acts, appends.line, appends.strikes, appends.mechanism,
        appends.settings, appends.keys.trans (acting_keys s), appends.notices⟩
    · obtain ⟨u, acts, appends⟩ := tabOn_appends (v := v) (e := e)
        ⟨chain, few, aligned, cursor, rfl, fits, runs⟩ stop
      exact ⟨u, exec_acts rfl taken state acts, appends.line, appends.strikes, appends.mechanism,
        appends.settings, appends.keys.trans (acting_keys s), appends.notices⟩
  · intro v n chain cursor few aligned plain found fits runs
    have behind := findStop_lt found
    obtain ⟨u, t, acts, appends, l, is, line⟩ := decimalOn_opens (v := v) (e := e)
      ⟨chain, few, aligned, cursor, rfl, by simp only [State.newCell]; omega, runs⟩ plain found
    refine ⟨t, exec_acts rfl taken state acts, ?_⟩
    have reach : v.line.endPos + (stop - v.line.endPos) = stop := by omega
    rw [is, line, appends.line]
    refine ⟨rfl, ?_, ?_, ?_, ?_, rfl, appends.strikes, appends.mechanism, appends.settings,
      appends.keys.trans (acting_keys s)⟩
    · simp [Line.endPos, State.newCell]
      exact reach
    · simp [n]
    · simp [n]
    · simp [n, State.newCell]

end Sys2Proof.Machine
end

section
/-! Proofs about the graphic codes: append, insertion, fill and overstrike, and the auto-wrap (R10, R26 to
R30, R34, R35). -/

namespace Sys2Proof.Machine

variable {s v : State} {c d g : Cell} {e : KeyEntry} {code : Byte} {i n : Nat}

/-! ## Append and insertion (R26, R28, R30) -/

/-- A graphic code appended at the end; in DIRECT typing it is released at once (R30). -/
theorem appendGraphic_appends
    (h : v.Appendable (v.newCell .glyph (some e.code) v.line.endPos (v.glyphE e.code)))
    (noWrap : v.wraps = true → v.line.endPos + v.glyphE e.code ≤ v.settings.right)
    (room : 9 ≤ v.strikeFree) :
    ∃ u, v.appendGraphic e = some u ∧
      v.Appends (v.newCell .glyph (some e.code) v.line.endPos (v.glyphE e.code))
        (if v.releasesAtOnce = true then some (extendRun v.line.run (v.line.cells.length + 1) .none)
          else v.line.run) u := by
  have plan : (v.releasePlan (v.newCell .glyph (some e.code) v.line.endPos (v.glyphE e.code))).length ≤
      7 := releasePlan_length (glyphE_le _)
  have stays : (v.wraps && decide (v.settings.right < v.line.endPos + v.glyphE e.code)) = false := by
    cases wraps : v.wraps
    · rfl
    · simpa using noWrap wraps
  have skips : v.appendGraphic e = if v.releasesAtOnce then _ else _ :=
    if_neg (by exact ne_true_of_eq_false stays)
  by_cases once : v.releasesAtOnce = true
  · obtain ⟨u, made, appends, _⟩ := h.make e.code State.releaseAll
    have cells : u.line.cells.length = v.line.cells.length + 1 := by simp [appends.line]
    rw [if_pos once] at skips ⊢
    refine ⟨u.startRun (v.line.cells.length + 1) .none, skips.trans ?_, appends.startRun _⟩
    rw [if_neg (by simp; omega), made, State.releaseAll, cells]
  · have notFull : v.line.full = false := by
      rw [Line.full, decide_eq_false_iff_not, Config.cellPlaces]
      have := h.few
      omega
    obtain ⟨u, made, appends, _⟩ := h.make e.code id
    rw [if_neg once] at skips ⊢
    refine ⟨u, skips.trans ?_, appends⟩
    simp only [h.aligned, Option.isSome_none, Bool.false_and, Bool.false_eq_true, if_false, h.place,
      notFull]
    exact congrArg some made

/-- A graphic code on a line where nothing is LIFTING and the wheel has its glyph goes by the place of the
cursor (R26, R27). -/
theorem graphicOn_eq (resting : v.line.liftingAtCursor = false)
    (glyph : (petal v.wheel.family e.code).isSome = true) :
    v.graphicOn e = (match v.line.place with
      | .atEnd => v.appendGraphic e
      | .insert i => some (v.insertGraphic e i)
      | .struck => v.strikeOver e.code) := by
  have has : (v.petalOf e.code).isNone = false := by simpa [State.petalOf] using glyph
  simp only [State.graphicOn, resting, has]
  cases v.line.place <;> rfl

/-- The cells of a chained line stand where those before them end. -/
theorem chained_at (chain : v.line.Chained) (is : v.line.cells[i]? = some c) :
    c.x = v.line.start + width (v.line.cells.take i) := by
  obtain ⟨inside, is⟩ := List.getElem?_eq_some_iff.mp is
  have split : chained v.line.start (v.line.cells.take i ++ v.line.cells.drop i) := by
    rw [List.take_append_drop]
    exact chain
  obtain ⟨_, rest⟩ := chained_append.mp split
  rw [List.drop_eq_getElem_cons inside, is] at rest
  exact rest.1

/-- A graphic code inserted into the PENDING cells. -/
theorem insertGraphic_inserts (chain : v.line.Chained) (few : v.line.cells.length < 160)
    (aligned : v.text.aligned = none) (fits : v.line.endPos + v.glyphE e.code ≤ v.limit)
    (is : v.line.cells[i]? = some c)
    (after : ∀ a ∈ v.line.cells.drop i, a.state = .pending ∧ a.kind ≠ .tab) :
    ∃ b tn, v.insertGraphic e i =
      { v.celled i (v.newCell .glyph (some e.code) c.x (v.glyphE e.code)) with
        text := { (v.celled i (v.newCell .glyph (some e.code) c.x (v.glyphE e.code))).text with bell := b }
        tone := tn } := by
  obtain ⟨inside, _⟩ := List.getElem?_eq_some_iff.mp is
  obtain ⟨b, tn, made⟩ := make_celled (i := i) (code := e.code) (next := id)
    (c := v.newCell .glyph (some e.code) c.x (v.glyphE e.code)) aligned chain few inside.le
    (chained_at (c := c) chain is :) after fits
  refine ⟨b, tn, Eq.trans ?_ made⟩
  unfold State.insertGraphic
  simp only [aligned, is, Option.map_some, Option.getD_some, Bool.false_and, Bool.false_eq_true, if_false]
  rfl

/-! ## Fills and overstrikes (R10, R29) -/

/-- A cell of the line becomes another, its group joining the queue, the cursor at its new place. -/
structure State.Strikes (v : State) (cursor id : Nat) (f : Cell → Cell) (plan : List Entry)
    (u : State) : Prop where
  line : u.line = { v.line with
    cursor := cursor, cells := v.line.cells.map fun d => if d.id = id then f d else d }
  strikes : u.strikes.entries = v.strikes.entries ++ number v.strikes.nextId (markGroup plan)
  mechanism : v.sameMechanism u
  settings : v.sameSettings u
  keys : u.keys = v.keys

theorem room_of_free {plan : List Entry} (some_plan : plan ≠ []) (room : plan.length ≤ v.strikeFree) :
    v.strikes.entries.length + plan.length ≤ 32 := by
  have := List.length_pos_of_ne_nil some_plan
  simp only [State.strikeFree, Config.strikePlaces] at room
  omega

theorem glyphStrikes_ne_nil (kind : EntryKind) (c : Cell) (code : Byte) :
    v.glyphStrikes kind c code ≠ [] := by simp [State.glyphStrikes]

theorem fillGap_strikes (room : (v.releasePlan (v.filled code g)).length ≤ v.strikeFree) :
    ∃ u, v.fillGap code g = some u ∧ v.Strikes (v.line.cursor + 1) g.id (fun d =>
      { v.filled code d with
        state := .queued, wheelId := some v.wheel.id, energy := some (v.energyOf code) })
      (v.releasePlan (v.filled code g)) u := by
  have some_plan : v.releasePlan (v.filled code g) ≠ [] := by
    simp [State.releasePlan, State.filled, glyphStrikes_ne_nil]
  refine ⟨_, if_pos room, ?_⟩
  rw [appendGroup_fits (room_of_free some_plan room)]
  exact ⟨rfl, rfl, ⟨rfl, rfl, rfl, rfl, rfl, rfl, rfl⟩, ⟨rfl, rfl⟩, rfl⟩

theorem overstrike_strikes (room : (v.overPlan c code).length ≤ v.strikeFree) :
    ∃ u, v.overstrike code c = some u ∧ v.Strikes v.line.cursor c.id (fun d =>
      { d with state := .queued, overCode := some code, prior := some .struck })
      (v.overPlan c code) u := by
  refine ⟨_, if_pos room, ?_⟩
  rw [appendGroup_fits (es := v.overPlan c code) (room_of_free (glyphStrikes_ne_nil _ _ _) room)]
  exact ⟨rfl, rfl, ⟨rfl, rfl, rfl, rfl, rfl, rfl, rfl⟩, ⟨rfl, rfl⟩, rfl⟩

/-! ## The auto-wrap (R34, R35) -/

theorem extendRun_within {run : Option Run} (n : Nat) (within : ∀ r, run = some r → r.b ≤ n) :
    extendRun run n .wrap = ⟨n, .wrap⟩ := by
  cases run with
  | none => rfl
  | some r => simp [extendRun, Nat.max_eq_right (within r rfl)]

/-- Cells leave the record from the right; the cursor at the end and the release boundary follow. -/
theorem removeFrom_line (f : Nat) (s : State) (n : Nat) (enough : s.line.cells.length ≤ n + f)
    (inside : n ≤ s.line.cells.length) (cursor : s.line.cursor = s.line.cells.length)
    (runs : ∀ r, s.line.run = some r → r.b ≤ s.line.cells.length) :
    ∃ run t d, s.removeFrom n f = { s with
      line := { s.line with cells := s.line.cells.take n, cursor := n, run := run }
      text := t, display := d } ∧ (s.text.aligned = none → t.aligned = none) ∧
      extendRun run n .wrap = ⟨n, .wrap⟩ := by
  induction f generalizing s with
  | zero =>
    have all : s.line.cells.length = n := by omega
    refine ⟨s.line.run, s.text, s.display, ?_, id, extendRun_within n fun r is => all ▸ runs r is⟩
    rw [← all, List.take_length, ← cursor]
    rfl
  | succ f ih =>
    unfold State.removeFrom
    split
    next more =>
      have last : s.line.cells.length - 1 + 1 = s.line.cells.length := by omega
      have cells : (s.removeCell (s.line.cells.length - 1)).line.cells =
          s.line.cells.take (s.line.cells.length - 1) := by
        simp [State.removeCell, List.eraseIdx_eq_take_drop_succ, last]
      have count : (s.removeCell (s.line.cells.length - 1)).line.cells.length =
          s.line.cells.length - 1 := by rw [cells, List.length_take]; omega
      obtain ⟨run, t, d, removed, aligned, extends'⟩ := ih (s.removeCell (s.line.cells.length - 1))
        (by omega) (by omega) (by
          rw [count, State.removeCell]
          simp only [cursor, below_last last.ge]
          omega) fun r is => by
          obtain ⟨q, was, rfl⟩ := Option.map_eq_some_iff.mp is
          rw [count]
          simp only [below_last ((runs q was).trans last.ge)]
          omega
      refine ⟨run, t, d, removed.trans ?_, fun none => aligned (by simp [State.removeCell, none]),
        extends'⟩
      have front : (s.line.cells.take (s.line.cells.length - 1)).take n = s.line.cells.take n := by
        rw [List.take_take, Nat.min_eq_left (by omega)]
      rw [cells, front]
      rfl
    next done =>
      have all : s.line.cells.length = n := by omega
      refine ⟨s.line.run, s.text, s.display, ?_, id, extendRun_within n fun r is => all ▸ runs r is⟩
      rw [← all, List.take_length, ← cursor]

/-- A graphic code past R on a line that wraps: the carry word and the new cell are kept aside, and a run
with ending WRAP is started (R34, R35). -/
theorem wrap_carries (cursor : s.line.cursor = s.line.cells.length)
    (plain : s.settings.mode = .line → s.line.format ≠ .justify)
    (runs : ∀ r, s.line.run = some r → r.b ≤ s.line.cells.length) (c : Cell) :
    let i := s.line.carryFrom
    let u := s.wrap c
    u.line = { s.line with
      cells := s.line.cells.take i, cursor := i, wrapped := true, run := some ⟨i, .wrap⟩ } ∧
    u.text.carry = s.line.cells.drop i ++ [c] ∧ u.strikes = s.strikes ∧ s.sameMechanism u ∧
    s.sameSettings u ∧ u.keys = s.keys := by
  intro i u
  have inside : i ≤ s.line.cells.length := Nat.sub_le _ _
  obtain ⟨run, t, d, removed, _, extends'⟩ :=
    removeFrom_line (s.line.cells.drop i ++ [c]).length s i (by simp; omega) inside cursor runs
  have count : (s.line.cells.take i).length = i := by rw [List.length_take]; omega
  have wraps : u = { s with
      line := { s.line with
        cells := s.line.cells.take i, cursor := i, wrapped := true, run := some ⟨i, .wrap⟩ }
      text := { t with carry := s.line.cells.drop i ++ [c] }
      display := d } := by
    have started : ({ s with
        line := { s.line with cells := s.line.cells.take i, cursor := i, wrapped := true, run := run }
        text := { t with carry := s.line.cells.drop i ++ [c] }
        display := d } : State).startRun (s.line.cells.take i).length .wrap = { s with
        line := { s.line with
          cells := s.line.cells.take i, cursor := i, wrapped := true, run := some ⟨i, .wrap⟩ }
        text := { t with carry := s.line.cells.drop i ++ [c] }
        display := d } := by
      rw [count]
      simp only [State.startRun, extends']
    simp only [u, State.wrap, show s.line.carryFrom = i from rfl, removed, started]
    split
    · rfl
    · exact if_neg (by simp; intro mode format; exact absurd format (plain mode))
  rw [wraps]
  exact ⟨rfl, rfl, rfl, ⟨rfl, rfl, rfl, rfl, rfl, rfl, rfl⟩, ⟨rfl, rfl⟩, rfl⟩

/-- What the carry keeps of a cell. -/
def Cell.look (c : Cell) : CellKind × Option Byte × Bool × Bool × Int :=
  (c.kind, c.code, c.bold, c.underline, c.voff)

/-- The cells of the carry stand at the end of the line, placed one after the other by the wheel in
force (R35). -/
theorem appendCarry_all (cs : List Cell) (u : State) (chain : u.line.Chained)
    (rest : u.line.run = none)
    (wheel : ∀ c ∈ cs, c.kind = .glyph → (u.petalOf (c.code.getD 0)).isSome = true)
    (fits : u.line.endPos + (cs.map u.freshE).sum ≤ 1560) :
    ∃ new cur t p d tn, cs.foldl (fun s c => s.appendCarry c) u = { u with
        line := { u.line with cells := u.line.cells ++ new, cursor := cur }
        text := t, spell := p, display := d, tone := tn } ∧
      chained u.line.start (u.line.cells ++ new) ∧ new.map Cell.look = cs.map Cell.look ∧
      new.map (·.e) = cs.map u.freshE ∧ ∀ c ∈ new, c.state = .pending := by
  induction cs generalizing u with
  | nil => exact ⟨[], u.line.cursor, u.text, u.spell, u.display, u.tone, by simp,
      by rw [List.append_nil]; exact chain, rfl, rfl, by simp⟩
  | cons c cs ih =>
    obtain ⟨onWheel, wheels⟩ := List.forall_mem_cons.mp wheel
    let new : Cell := { c with
      id := u.text.nextCell, x := u.line.endPos, e := u.freshE c, state := .pending, wordId := none }
    obtain ⟨b, tn, bell⟩ := bellAfter_eq u.line.endPos (u.insertCell u.line.cells.length new)
    have cells : (u.insertCell u.line.cells.length new).line.cells = u.line.cells ++ [new] := by
      simp [State.insertCell, new]
    have appended : u.appendCarry c =
        (u.insertCell u.line.cells.length new).bellAfter u.line.endPos := by
      have present : ¬ ((decide (c.kind = .glyph) && (u.petalOf (c.code.getD 0)).isNone) = true) := by
        intro lacks
        simp only [Bool.and_eq_true, decide_eq_true_eq] at lacks
        obtain ⟨glyph, lacks⟩ := lacks
        have has := onWheel glyph
        rw [Option.isNone_iff_eq_none.mp lacks] at has
        cases has
      have inside : ¬ Config.rightEnd < u.line.endPos + u.freshE c := by
        simp only [List.map_cons, List.sum_cons] at fits
        simp only [Config.rightEnd]
        omega
      simp only [State.appendCarry, present, inside, if_false]
      rfl
    have chain' : chained u.line.start (u.line.cells ++ [new]) :=
      chained_append.mpr ⟨chain, endPos_eq chain, trivial⟩
    let w := (u.insertCell u.line.cells.length new).bellAfter u.line.endPos
    have line : w.line = { u.line with
        cells := u.line.cells ++ [new], cursor := cursorAfter u.line.cells.length u.line.cursor } := by
      simp only [w, bell]
      simp [State.insertCell, rest, new]
    have fresh : w.freshE = u.freshE := by
      simp only [w, bell]
      rfl
    have petals : w.petalOf = u.petalOf := by
      simp only [w, bell]
      rfl
    have chained' : w.line.Chained := by rw [line]; exact chain'
    obtain ⟨more, cur, t, p, d, tn', all, chainedAll, looks, widths, pending⟩ := ih w chained'
      (by rw [line]; exact rest) (by rw [petals]; exact wheels) (by
        rw [fresh, endPos_eq chained', line]
        rw [endPos_eq chain] at fits
        simp only [List.map_cons, List.sum_cons, width_append, width_cons, width_nil, new] at fits ⊢
        omega)
    refine ⟨new :: more, cur, t, p, d, tn', ?_, ?_, ?_, ?_, ?_⟩
    · rw [List.foldl_cons, appended]
      refine all.trans ?_
      rw [line, show w = _ from bell]
      simp only [List.append_assoc, List.singleton_append]
      rfl
    · rw [line] at chainedAll
      simpa using chainedAll
    · simp [looks, new, Cell.look]
    · simp [widths, fresh, new]
    · simpa [new] using pending

theorem newCell_glyph (v : State) (code : Byte) (x : Nat) :
    ({ v.newCell .glyph (some code) x (v.glyphE code) with id := v.text.nextCell } : Cell) =
      v.glyphCell code x := by
  simp [State.newCell, State.glyphCell]

theorem glyphCell_zero (s : State) (code : Byte) (x : Nat) :
    ({ s.glyphCell code x with id := 0 } : Cell) = s.newCell .glyph (some code) x (s.glyphE code) := by
  simp [State.newCell, State.glyphCell]

/-- The end of a wrap: the line is closed, and the carry stands on the new line (R15, R35). -/
theorem wrapEnding_carries (room : 1 ≤ s.strikeFree)
    (wheel : ∀ c ∈ s.text.carry, c.kind = .glyph → (s.petalOf (c.code.getD 0)).isSome = true)
    (fits : s.settings.left + (s.text.carry.map s.freshE).sum ≤ 1560) :
    let t := s.wrapEnding
    t.line.Chained ∧ t.line.start = s.settings.left ∧ t.line.state = .open ∧ t.line.v = 0 ∧
      t.line.run = none ∧ t.line.cursor = t.line.cells.length ∧ t.text.carry = [] ∧
      t.line.cells.map Cell.look = s.text.carry.map Cell.look ∧
      t.line.cells.map (·.e) = s.text.carry.map s.freshE ∧
      (∀ c ∈ t.line.cells, c.state = .pending) ∧
      ∃ f : Entry, t.strikes.entries =
          (s.strikes.entries.map fun d => { d with cell := none }) ++ [f] ∧ f.kind = .ret ∧
        f.x = some (target s.settings.left s.retained.printOffset) ∧
        f.feed = some (s.settings.spacing.steps - s.line.v) := by
  intro t
  let u := (s.appendGroup [s.returnEntry]).endRun.nextLine
  have opened : u = ({ s with
      strikes := ⟨s.strikes.entries ++ [s.returnEntry.alone s.strikes.nextId],
        s.strikes.nextId + 1⟩ } : State).endRun.nextLine := by
    rw [← appendGroup_one (d := s.returnEntry) room]
  have line : u.line = .opened s.settings.left 0 s.settings.format := by rw [opened]; rfl
  have carry : u.text.carry = s.text.carry := by rw [opened]; rfl
  have fresh : u.freshE = s.freshE := by rw [opened]; rfl
  have petals : u.petalOf = s.petalOf := by rw [opened]; rfl
  obtain ⟨new, cur, tx, p, d, tn, all, chain, looks, widths, pending⟩ :=
    appendCarry_all s.text.carry u (by rw [Line.Chained, line]; trivial) (by rw [line]; rfl)
      (by rw [petals]; exact wheel) (by rw [fresh, line]; exact fits)
  have result : t = ({ u with
      line := { u.line with cells := new, cursor := new.length }
      text := { tx with carry := [] }
      spell := p, display := d.hearCursor cur new.length, tone := tn } : State) := by
    have folds : t = ({ u with
        line := { u.line with cells := u.line.cells ++ new, cursor := cur }
        text := { tx with carry := [] }
        spell := p, display := d, tone := tn } : State).setCursor (u.line.cells ++ new).length := by
      simp only [t, State.wrapEnding, State.appendAllCarry]
      rw [show (s.appendGroup [s.returnEntry]).endRun.nextLine = u from rfl, carry, all]
    rw [folds, line]
    rfl
  rw [line] at chain
  rw [result, line, ← fresh]
  refine ⟨chain, rfl, rfl, rfl, rfl, rfl, rfl, looks, widths, pending, ?_⟩
  rw [opened]
  exact ⟨{ s.returnEntry.alone s.strikes.nextId with cell := none }, by
    simp [State.nextLine, State.closeLine, State.openLine, State.endRun], rfl, rfl, rfl⟩

/-- A graphic code past R on a line whose word can be carried over (R34). -/
theorem tryWrap_wraps {c : Cell} (word : 0 < s.line.carryFrom)
    (fits : width (s.line.cells.drop s.line.carryFrom) + c.e ≤ s.settings.right - s.settings.left)
    (free : s.effMode = .hold → s.anyHeldWord = false) : s.tryWrap e c = s.wrap c := by
  have held : ¬ ((decide (s.effMode = .hold) && s.anyHeldWord) = true) := by
    intro both
    simp only [Bool.and_eq_true, decide_eq_true_eq] at both
    simp [free both.1] at both
  simp only [State.tryWrap]
  rw [if_neg (Nat.ne_of_gt word), if_neg (Nat.not_lt.mpr fits), if_neg held]

/-- A graphic code in the struck region that can fill the GAP at the cursor fills it, else it overstrikes the
cell before the cursor (R29). -/
theorem strikeOver_fills (is : v.line.cells[v.line.cursor]? = some g)
    (fillable : v.fillable code g = true) : v.strikeOver code = v.fillGap code g := by
  have found : v.line.cells[v.line.cursor]?.filter (v.fillable code) = some g := by
    rw [is, Option.filter_some, if_pos fillable]
  simp only [State.strikeOver, found]
theorem strikeOver_overstrikes (at_cursor : v.line.cursor = i + 1) (is : v.line.cells[i]? = some c)
    (none : ∀ g, v.line.cells[v.line.cursor]? = some g → v.fillable code g = false)
    (strikable : v.overstrikable code c = true) : v.strikeOver code = v.overstrike code c := by
  have gap : v.line.cells[v.line.cursor]?.filter (v.fillable code) = .none := by
    cases there : v.line.cells[v.line.cursor]? with
    | none => rfl
    | some g => simp [none g there]
  have before : cellBefore v.line.cells v.line.cursor = some c := by
    simp [cellBefore, at_cursor, is]
  have found : (cellBefore v.line.cells v.line.cursor).filter (v.overstrikable code) = some c := by
    rw [before, Option.filter_some, if_pos strikable]
  simp only [State.strikeOver, gap, found]

/-- Settles O23: a clause for each way a graphic code acts, and the end of a wrap. -/
theorem graphicCodeAppendsCell : Obligations.GraphicCodeAppendsCell := by
  refine ⟨fun s e taken state => ?_, fun s e taken state glyph place resting => ?_,
    fun s e taken state glyph wraps cursor word => ?_, fun s room wheel fits => ?_⟩
  · intro v n x w chain few aligned glyph fits runs makes
    refine ⟨fun cursor noWrap room => ?_, fun c d at_cursor before pending after => ?_⟩
    · obtain ⟨u, acts, appends⟩ := appendGraphic_appends (v := v) (e := e)
        ⟨chain, few, aligned, cursor, rfl, fits, runs⟩ noWrap room
      have on := graphicOn_eq (liftingAtCursor_atEnd (le_of_eq cursor.symm)) glyph
      rw [place_atEnd (le_of_eq cursor.symm)] at on
      refine ⟨u, exec_acts rfl taken state (on.trans acts), ?_, appends.strikes, appends.mechanism,
        appends.settings, appends.keys.trans (acting_keys s), appends.notices⟩
      rw [appends.line, newCell_glyph, cursor]
    · obtain ⟨inside, is⟩ := List.getElem?_eq_some_iff.mp at_cursor
      have resting : v.line.liftingAtCursor = false := by
        have state := (after c (List.drop_eq_getElem_cons inside ▸ is ▸ List.mem_cons_self)).1
        simp [Line.liftingAtCursor, at_cursor, state]
      have place : v.line.place = .insert v.line.cursor := by
        simp [Line.place, Nat.not_le.mpr inside, before, pending]
      obtain ⟨b, tn, inserts⟩ := insertGraphic_inserts (e := e) chain few aligned fits at_cursor after
      have on := graphicOn_eq resting glyph
      rw [place] at on
      refine ⟨_, exec_acts rfl taken state on, ?_⟩
      rw [inserts]
      obtain ⟨strikes, mechanism, settings, keys, notices⟩ := celled_leaves v.line.cursor
        (v.newCell .glyph (some e.code) c.x (v.glyphE e.code)) v
      refine ⟨?_, strikes, mechanism, settings, keys.trans (acting_keys s), notices⟩
      simp only [State.celled, newCell_glyph]
      simp [State.insertCell, State.setCells, cursorAfter, State.newCell, w]
  · intro strikes fillable
    have on := graphicOn_eq (v := s.takeHead) (e := e) resting glyph
    rw [show s.takeHead.line.place = .struck from place] at on
    have acting := acting_open state
    have takes {cursor id : Nat} {f : Cell → Cell} {plan : List Entry}
        (acts : ∃ u, s.takeHead.strikeOver e.code = some u ∧ s.takeHead.Strikes cursor id f plan u) :
        ∃ u : State, exec .graphicCode s = .next (u.conclude s) ∧
          u.line = { s.line with
            cursor := cursor, cells := s.line.cells.map fun d => if d.id = id then f d else d } ∧
          u.strikes.entries = s.strikes.entries ++ number s.strikes.nextId (markGroup plan) ∧
          s.sameMechanism u ∧ s.sameSettings u ∧ u.keys = s.keys.tail := by
      obtain ⟨u, over', struck⟩ := acts
      exact ⟨u, exec_acts rfl taken (by simp [state]) (acting.symm ▸ on.trans over'), struck.line,
        struck.strikes, struck.mechanism, struck.settings, struck.keys⟩
    have fillable_iff (g : Cell) : s.takeHead.fillable e.code g = true ↔ fillable g := by
      simp only [State.fillable, Bool.and_eq_true, decide_eq_true_eq, fillable, and_assoc]
      rfl
    refine ⟨fun g is fills => ?_, fun c i cursor is none kind struck first wheel mounted fits => ?_⟩
    · intro fill room
      have over' := strikeOver_fills (v := s.takeHead) is ((fillable_iff g).mpr fills)
      obtain ⟨u, fill, strikes⟩ := fillGap_strikes (v := s.takeHead) (code := e.code) (g := g) room
      exact takes ⟨u, over'.trans fill, strikes⟩
    · intro room
      have strikable : s.takeHead.overstrikable e.code c = true := by
        have fits : s.takeHead.fits e.code c.e = true := fits
        simp [State.overstrikable, kind, struck, first, State.mounted, wheel, mounted, fits]
      have over' := strikeOver_overstrikes (v := s.takeHead) cursor is (fun g there =>
        by simpa using mt (fillable_iff g).mp (none g there)) strikable
      obtain ⟨u, strike, strikes⟩ := overstrike_strikes (v := s.takeHead) (c := c) (code := e.code) room
      exact takes ⟨u, over'.trans strike, strikes⟩
  · intro i x w past fits free plain runs
    have wraps_eq := tryWrap_wraps (s := s.takeHead) (e := e)
      (c := s.takeHead.newCell .glyph (some e.code) x w) word fits free
    have on := graphicOn_eq (v := s.takeHead) (e := e)
      (liftingAtCursor_atEnd (le_of_eq cursor.symm)) glyph
    have place : s.takeHead.line.place = .atEnd := place_atEnd (le_of_eq cursor.symm)
    rw [place] at on
    have goes : s.takeHead.appendGraphic e = some (s.takeHead.wrap
        (s.takeHead.newCell .glyph (some e.code) x w)) := by
      rw [← wraps_eq]
      have cond : (s.wraps && decide (s.settings.right < x + w)) = true := by simp [wraps, past]
      exact if_pos cond
    obtain ⟨line, carry, strikes, mechanism, settings, keys⟩ := wrap_carries (s := s.takeHead) cursor
      plain runs (s.takeHead.newCell .glyph (some e.code) x w)
    refine ⟨_, exec_acts rfl taken (by simp [state]) ((acting_open state).symm ▸ on.trans goes), line,
      carry.trans ?_, strikes, mechanism, settings, keys⟩
    rw [glyphCell_zero]
    rfl
  · exact wrapEnding_carries room wheel fits

end Sys2Proof.Machine
end

section
/-! Proofs about corrections: deletion, taking back, lift-offs and the reopening of a RETURNED line (R12,
R39, R72, R124 to R132, R138, R139). -/

namespace Sys2Proof.Machine

variable {s t u v : State} {c : Cell} {e : KeyEntry} {i : Nat}

/-! ## What a correction key does -/

theorem exec_correct_acts (taken : s.takesKey .correct e) (acts : s.takeHead.correction = .acts u) :
    exec .correct s = .next (u.conclude s) :=
  exec_takes rfl taken (by simp [State.correctOn, acts])
theorem exec_correct_refused (taken : s.takesKey .correct e)
    (refused : s.takeHead.correction = .refused u) : exec .correct s = .next (u.conclude s) :=
  exec_takes rfl taken (by simp [State.correctOn, refused])

/-- On a line that is not RETURNED the correction is of the cell before the cursor (R124). -/
theorem correction_at (open' : v.line.state ≠ .returned) (cursor : v.line.cursor = i + 1)
    (is : v.line.cells[i]? = some c) : v.correction = v.correctAt i c := by
  simp [State.correction, open', cursor, is]

/-! ## Lift-offs (R130 to R132) -/

/-- An append of a group for which there is room, or of none. -/
theorem appendGroup_entries {es : List Entry} (room : es.length ≤ s.strikeFree) :
    (s.appendGroup es).strikes.entries =
      s.strikes.entries ++ number s.strikes.nextId (markGroup es) := by
  cases es with
  | nil =>
    unfold State.appendGroup
    split <;> simp [markGroup, markLast, number]
  | cons d es =>
    simp only [State.strikeFree, Config.strikePlaces, List.length_cons] at room
    rw [appendGroup_fits (by simp only [List.length_cons]; omega)]

theorem appendGroup_leaves (es : List Entry) (s : State) :
    ∃ q, s.appendGroup es = { s with strikes := q } := by
  unfold State.appendGroup
  split <;> exact ⟨_, rfl⟩

theorem liftRefusal_none {tape : TapeKind} (present : v.wheel.present = true)
    (wheel : c.wheelId = some v.wheel.id) (is : v.ribbon.tape = some tape)
    (inks : compatible tape c.ribbon = true) : v.liftRefusal c = none := by
  simp [State.liftRefusal, State.mounted, present, wheel, is, inks]

/-- A refused lift-off writes the message, the CLICK and its notice. -/
theorem refuseLift_eq (cause : LiftCause) (c : Cell) (v : State) : ∃ d tn n,
    v.refuseLift cause c = { v with display := d, tone := tn, notices := n } ∧
    n.rows.liftRefused = v.notices.rows.liftRefused.occur [byteOf cause.number, c.liftCode] :=
  ⟨_, _, _, rfl, rfl⟩

theorem correctAt_lifts (struck : c.state = .struck) (inked : c.inked = true)
    (passes : v.liftRefusal c = none) (room : (v.liftPlan c).length ≤ v.strikeFree) :
    v.correctAt i c = .acts (v.liftOff i c) := by
  simp [State.correctAt, struck, inked, passes, room]

/-- A lift-off: the LIFT group, the LIFTING cell, the cursor before it. -/
theorem liftOff_eq (i : Nat) (c : Cell) (v : State) : ∃ q d, v.liftOff i c = { v with
    strikes := q, display := d
    line := { v.line with
      cursor := i
      cells := v.line.cells.map fun d => if d.id = c.id then { d with state := .lifting } else d } } ∧
    q = (v.appendGroup (v.liftPlan c)).strikes := by
  obtain ⟨q, appended⟩ := appendGroup_leaves (v.liftPlan c) v
  rw [State.liftOff, appended]
  exact ⟨_, _, rfl, rfl⟩

/-! ## Taking back (R12, R72) -/

theorem correctAt_takesBack (queued : c.state = .queued) (waits : v.cellBegun c.id = false) :
    v.correctAt i c = .acts ((v.withdrawCell c.id).takeBack i c) := by
  simp [State.correctAt, queued, waits]

/-- What taking back writes besides the line. -/
theorem takeBack_eq (i : Nat) (c : Cell) (v : State) : ∃ l t d, v.takeBack i c =
    { v with line := l, text := t, display := d } := by
  unfold State.takeBack
  repeat' split
  all_goals exact ⟨_, _, _, rfl⟩

theorem takeBack_cursor (cursor : v.line.cursor = i + 1) : (v.takeBack i c).line.cursor = i := by
  unfold State.takeBack
  repeat' split
  · rfl
  · simp [State.removeCell, cursor, below]
  · rfl

theorem takeBack_restores {p : Prior} (prior : c.prior = some p) :
    (v.takeBack i c).line.cells =
      v.line.cells.map fun d => if d.id = c.id then d.restore p else d := by
  simp [State.takeBack, prior, State.mapCell, State.setCursor]
theorem takeBack_removes (prior : c.prior = none) (last : v.line.cells.length = i + 1) :
    v.takeBack i c = v.removeCell i := by
  simp [State.takeBack, prior, last]
theorem takeBack_gaps (prior : c.prior = none) (inside : v.line.cells.length ≠ i + 1) :
    (v.takeBack i c).line.cells =
      v.line.cells.map fun d => if d.id = c.id then d.toGap else d := by
  simp [State.takeBack, prior, inside.symm, State.mapCell, State.setCursor]

theorem removeCell_takes (last : v.line.cells.length = i + 1) :
    (v.removeCell i).line.cells = v.line.cells.take i := by
  simp [State.removeCell, List.eraseIdx_eq_take_drop_succ, last]

/-! ## Deletion (R39, R55) -/

theorem removeCell_cells (i : Nat) (v : State) :
    (v.removeCell i).line.cells = v.line.cells.take i ++ v.line.cells.drop (i + 1) := by
  simp [State.removeCell, List.eraseIdx_eq_take_drop_succ]

theorem correctAt_pending (pending : c.state = .pending) : v.correctAt i c = v.deletePending i := by
  simp [State.correctAt, pending]

/-- A chained list that starts where it stands is its own re-placement. -/
theorem chainFrom_of_chained {x : Nat} {cs : List Cell} (chain : chained x cs) : chainFrom x cs = cs := by
  induction cs generalizing x with
  | nil => rfl
  | cons c cs ih =>
    obtain ⟨rfl, rest⟩ := chain
    simp [chainFrom, ih rest]

/-- A chained line around one of its cells. -/
theorem chained_around (chain : v.line.Chained) (is : v.line.cells[i]? = some c) :
    chained v.line.start (v.line.cells.take i) ∧ c.x = v.line.start + width (v.line.cells.take i) ∧
      chained (c.x + c.e) (v.line.cells.drop (i + 1)) ∧
      width v.line.cells = width (v.line.cells.take i) + (c.e + width (v.line.cells.drop (i + 1))) := by
  obtain ⟨inside, is'⟩ := List.getElem?_eq_some_iff.mp is
  have cells : v.line.cells = v.line.cells.take i ++ c :: v.line.cells.drop (i + 1) := by
    rw [← is', ← List.drop_eq_getElem_cons inside, List.take_append_drop]
  have split : chained v.line.start (v.line.cells.take i ++ c :: v.line.cells.drop (i + 1)) :=
    cells ▸ chain
  obtain ⟨front, at_c, rest⟩ := chained_append.mp split
  refine ⟨front, at_c, by rwa [at_c], ?_⟩
  conv_lhs => rw [cells]
  simp

/-- The line after a deletion, its cells as the re-placement leaves them. -/
def Line.deleted (l : Line) (i : Nat) (cells : List Cell) : Line :=
  { l with
    cursor := below i l.cursor
    run := l.run.map fun r => { r with b := below i r.b }
    cells := cells }

/-- The state after a deletion where no aligned run is open. -/
def State.deleted (v : State) (i : Nat) (cells : List Cell) : State :=
  { v with
    line := v.line.deleted i cells
    text := { v.text with erase := v.text.erase.map fun e => { e with stop := below i e.stop } }
    display := v.display.hearCursor v.line.cursor (below i v.line.cursor) }

theorem removeCell_eq (aligned : v.text.aligned = none) (i : Nat) :
    v.removeCell i = v.deleted i (v.line.cells.take i ++ v.line.cells.drop (i + 1)) := by
  simp [State.removeCell, State.deleted, Line.deleted, aligned, List.eraseIdx_eq_take_drop_succ]

theorem deletePending_acts {cells : List Cell} (aligned : v.text.aligned = none)
    (placed : rechain none (v.line.deleted i (v.line.cells.take i ++ v.line.cells.drop (i + 1))) =
      some cells)
    (allowed : cells = v.line.cells.take i ++ v.line.cells.drop (i + 1) ∨
      (v.line.deleted i cells).endPos ≤ v.limit) :
    v.deletePending i = .acts (v.deleted i cells) := by
  have replaced : (v.removeCell i).replace = some (v.deleted i cells) := by
    rw [removeCell_eq aligned, State.replace]
    have placed : rechain
        (v.deleted i (v.line.cells.take i ++ v.line.cells.drop (i + 1))).text.aligned
        (v.deleted i (v.line.cells.take i ++ v.line.cells.drop (i + 1))).line = some cells :=
      (congrArg (rechain · _) aligned).trans placed
    rw [placed]
    simp only
    split
    next same => rw [same]; rfl
    next moved => exact if_pos (allowed.resolve_left moved)
  unfold State.deletePending
  rw [replaced]
  simp [aligned]

theorem deletePending_refused {cells : List Cell} (aligned : v.text.aligned = none)
    (placed : rechain none (v.line.deleted i (v.line.cells.take i ++ v.line.cells.drop (i + 1))) =
      some cells)
    (moved : cells ≠ v.line.cells.take i ++ v.line.cells.drop (i + 1))
    (past : v.limit < (v.line.deleted i cells).endPos) : v.deletePending i = .refused v.click := by
  have replaced : (v.removeCell i).replace = none := by
    rw [removeCell_eq aligned, State.replace]
    have placed : rechain
        (v.deleted i (v.line.cells.take i ++ v.line.cells.drop (i + 1))).text.aligned
        (v.deleted i (v.line.cells.take i ++ v.line.cells.drop (i + 1))).line = some cells :=
      (congrArg (rechain · _) aligned).trans placed
    rw [placed]
    simp only
    rw [if_neg (by exact moved)]
    exact if_neg (Nat.not_le.mpr past)
  unfold State.deletePending
  rw [replaced]

/-- The cells behind a deleted one follow, where all of them are PENDING and none is a TAB. -/
theorem rechain_deleted (chain : v.line.Chained) (is : v.line.cells[i]? = some c)
    (after : ∀ d ∈ v.line.cells.drop (i + 1), d.state = .pending ∧ d.kind ≠ .tab) :
    rechain none (v.line.deleted i (v.line.cells.take i ++ v.line.cells.drop (i + 1))) =
      some (v.line.cells.take i ++ chainFrom c.x (v.line.cells.drop (i + 1))) := by
  obtain ⟨front, at_c, _, _⟩ := chained_around chain is
  rw [rechain_none (l := v.line.deleted i _) rfl front after, at_c]
  rfl

theorem deleted_endPos (chain : v.line.Chained) (is : v.line.cells[i]? = some c) :
    (v.line.deleted i (v.line.cells.take i ++ chainFrom c.x (v.line.cells.drop (i + 1)))).endPos =
      v.line.endPos - c.e := by
  obtain ⟨front, at_c, _, total⟩ := chained_around chain is
  rw [endPos_eq (l := v.line.deleted i _) (chained_append.mpr ⟨front, at_c ▸ chainFrom_chained _ _⟩),
    endPos_eq chain, total]
  simp only [Line.deleted, width_append, width_chainFrom]
  omega

/-- Where the cells behind a deleted one would have to move they are not where the re-placement puts
them. -/
theorem deleted_moves (chain : v.line.Chained) (is : v.line.cells[i]? = some c)
    (more : v.line.cells.length ≠ i + 1) (wide : 0 < c.e) :
    v.line.cells.take i ++ chainFrom c.x (v.line.cells.drop (i + 1)) ≠
      v.line.cells.take i ++ v.line.cells.drop (i + 1) := by
  obtain ⟨_, _, rest, _⟩ := chained_around chain is
  obtain ⟨inside, _⟩ := List.getElem?_eq_some_iff.mp is
  intro same
  have same := List.append_cancel_left same
  have next : i + 1 < v.line.cells.length := by omega
  rw [List.drop_eq_getElem_cons next] at same rest
  have x : c.x = v.line.cells[i + 1].x := (congrArg Cell.x (List.cons.inj same).1 :)
  have stands := rest.1
  omega

theorem below_next (i : Nat) : below i (i + 1) = i := if_pos (Nat.lt_succ_self i)

theorem withdraw_rest (p : Entry → Bool) (v : State) : (v.withdraw p).ribbon = v.ribbon ∧
    (v.withdraw p).keys = v.keys ∧ (v.withdraw p).strikes.nextId = v.strikes.nextId := by
  unfold State.withdraw
  simp only
  split <;> exact ⟨rfl, rfl, rfl⟩

/-! ## Reopening (R138, R139) -/

/-- A lift-off on a RETURNED line: the RETURN is undone, the line reopened, and the last cell lifted. -/
theorem correctReturned_lifts (count : v.line.cells.length = i + 1) (is : v.line.cells[i]? = some c)
    (struck : c.state = .struck) (inked : c.inked = true) (passes : v.liftRefusal c = none)
    (undone : v.undoReturn (v.liftPlan c).length = some t) :
    v.correctReturned = t.reopen.correctAt i c := by
  have last : v.line.cells.getLast? = some c := by
    rw [List.getLast?_eq_getElem?, count]
    exact is
  have needs : v.firstNeeds c = (v.liftPlan c).length := by simp [State.firstNeeds, struck, inked]
  simp [State.correctReturned, last, struck, inked, passes, needs, undone, count]

/-- The withdrawn RETURN entry gives room for one entry more. -/
theorem withdrawReturn_room (withdrawable : v.returnWithdrawable = true)
    (few : v.strikes.entries.length ≤ 32) : v.strikeFree + 1 ≤ v.withdrawReturn.strikeFree := by
  have shorter : v.withdrawReturn.strikes.entries.length < v.strikes.entries.length := by
    rw [State.withdrawReturn, withdraw_entries]
    unfold State.returnWithdrawable at withdrawable
    split at withdrawable
    · cases withdrawable
    next r id =>
      simp only [Bool.and_eq_true, List.any_eq_true, decide_eq_true_eq] at withdrawable
      obtain ⟨⟨d, member, is⟩, _⟩ := withdrawable
      refine List.length_filter_lt_length_iff_exists.mpr ⟨d, member, ?_⟩
      simp [id, is]
  simp only [State.strikeFree, Config.strikePlaces]
  omega

/-- A LIFT group, and its refusal, hang on the wheel, the ribbon and the settings alone. -/
theorem liftPlan_congr (wheel : t.wheel = v.wheel) (ribbon : t.ribbon = v.ribbon)
    (settings : t.settings = v.settings) (retained : t.retained = v.retained) :
    t.liftPlan c = v.liftPlan c := by
  have strike : t.liftStrike = v.liftStrike := by
    funext c x code
    simp only [State.liftStrike, State.strike, State.targetOf, State.petalOf, wheel, ribbon, retained]
  have unders : t.underscoresOf = v.underscoresOf := by
    funext c
    simp only [State.underscoresOf, State.pitch, wheel, settings]
  simp only [State.liftPlan, strike, unders]
theorem liftRefusal_congr (wheel : t.wheel = v.wheel) (ribbon : t.ribbon = v.ribbon) :
    t.liftRefusal c = v.liftRefusal c := by
  simp only [State.liftRefusal, State.mounted, wheel, ribbon] <;> rfl

/-- Settles O30: one clause for each state of the cell before the cursor. -/
theorem correctLiftsOrTakesBack : Obligations.CorrectLiftsOrTakesBack := by
  refine ⟨fun s e i c taken state cursor is => ?_, fun s e taken state cursor => ?_,
    fun s e i c taken state count is struck inked passes few => ?_⟩
  · intro n become gapped ends
    have at_i : s.takeHead.correction = s.takeHead.correctAt i c := correction_at state cursor is
    have acts {u : State} (does : s.takeHead.correctAt i c = .acts u)
        (same : s.sameSettings u ∧ u.keys = s.keys.tail ∧ u.carrier = s.carrier ∧ u.wheel = s.wheel ∧
          u.platen = s.platen ∧ u.hammer.heat = s.hammer.heat) : ends u :=
      ⟨exec_correct_acts taken (at_i.trans does), same⟩
    refine ⟨fun struck inked => ⟨fun tape present wheel tapeIs inks room => ?_, fun cause refuses => ?_⟩,
      fun queued waits => ?_, fun struck bare => ?_, fun pending chain aligned after => ⟨fun allowed => ?_,
        fun more wide past => ?_⟩⟩
    · have passes := liftRefusal_none (v := s.takeHead) present wheel tapeIs inks
      obtain ⟨q, d, lifted, strikes⟩ := liftOff_eq i c s.takeHead
      refine ⟨_, acts (correctAt_lifts struck inked passes room) ?_, ?_⟩
      · rw [lifted]
        exact ⟨⟨rfl, rfl⟩, rfl, rfl, rfl, rfl, rfl⟩
      · rw [lifted, strikes]
        exact ⟨⟨rfl, rfl, rfl, rfl, rfl, rfl, rfl⟩, rfl, rfl, appendGroup_entries (s := s.takeHead) room⟩
    · have refused : s.takeHead.correctAt i c = .refused (s.takeHead.refuseLift cause c) := by
        have refuses : s.takeHead.liftRefusal c = some cause := refuses
        simp [State.correctAt, struck, inked, refuses]
      obtain ⟨d, tn, n, refusal, notice⟩ := refuseLift_eq cause c s.takeHead
      refine ⟨_, ⟨exec_correct_refused taken (at_i.trans refused), ?_⟩, ?_⟩
      · rw [refusal]
        exact ⟨⟨rfl, rfl⟩, rfl, rfl, rfl, rfl, rfl⟩
      · rw [refusal]
        exact ⟨⟨rfl, rfl, rfl, rfl, rfl, rfl, rfl⟩, rfl, rfl, notice⟩
    · have does := correctAt_takesBack (v := s.takeHead) (i := i) queued waits
      obtain ⟨line, carrier, wheel, platen, heat, pulse, settings, retained⟩ :=
        withdraw_frame (s := s.takeHead) fun e => e.cell = some c.id
      let w := s.takeHead.withdrawCell c.id
      have line : w.line = s.line := line
      obtain ⟨l, t, d, took⟩ := takeBack_eq i c w
      refine ⟨w.takeBack i c, acts does ?_, takeBack_cursor (line ▸ cursor), ?_, fun prior last => ?_,
        fun prior inside => ?_, fun prior => ?_, fun w' g r b un prior => ?_⟩
      · rw [show State.takeBack i c (s.takeHead.withdrawCell c.id) = _ from took]
        exact ⟨⟨settings, retained⟩, (withdraw_rest _ _).2.1, carrier, wheel, platen, heat⟩
      · rw [took]
        exact withdraw_entries _
      · have last : w.line.cells.length = i + 1 := by rw [line]; exact last
        rw [takeBack_removes prior last, removeCell_takes last, line]
      · rw [takeBack_gaps prior (by rw [line]; exact inside), line]
        rfl
      · rw [takeBack_restores prior, line]
        rfl
      · rw [takeBack_restores prior, line]
        rfl
    · by_cases last : n = i + 1
      · have does : s.takeHead.correctAt i c = .acts (s.takeHead.removeCell i) := by
          have last : i + 1 = s.takeHead.line.cells.length := last.symm
          simp only [State.correctAt, struck, bare, ← last]
          rfl
        refine ⟨_, acts does ⟨⟨rfl, rfl⟩, rfl, rfl, rfl, rfl, rfl⟩, ⟨rfl, rfl, rfl, rfl, rfl, rfl, rfl⟩,
          rfl, ?_, fun _ => removeCell_takes (v := s.takeHead) last, fun inside => absurd last inside⟩
        exact (congrArg (below i) cursor).trans (below_next i)
      · have does : s.takeHead.correctAt i c = .acts (s.takeHead.setCursor i) := by
          have inside : ¬ i + 1 = s.takeHead.line.cells.length := fun same => last same.symm
          simp only [State.correctAt, struck, bare, inside, if_false]
          rfl
        exact ⟨_, acts does ⟨⟨rfl, rfl⟩, rfl, rfl, rfl, rfl, rfl⟩, ⟨rfl, rfl, rfl, rfl, rfl, rfl, rfl⟩,
          rfl, rfl, fun same => absurd same last, fun _ => rfl⟩
    · have placed := rechain_deleted (v := s.takeHead) chain is after
      have stays : n = i + 1 ∨ c.e = 0 → s.line.cells.take i ++ chainFrom c.x
          (s.line.cells.drop (i + 1)) = s.line.cells.take i ++ s.line.cells.drop (i + 1) := by
        rintro (last | bare)
        · rw [List.drop_of_length_le (by omega)]
          rfl
        · obtain ⟨_, _, rest, _⟩ := chained_around chain is
          rw [chainFrom_of_chained (by simpa [bare] using rest)]
      have done := deletePending_acts (v := s.takeHead) aligned placed (by
        obtain last | bare | fits := allowed
        · exact .inl (stays (.inl last))
        · exact .inl (stays (.inr bare))
        · exact .inr ((deleted_endPos (v := s.takeHead) chain is).trans_le fits))
      refine ⟨_, acts ((correctAt_pending pending).trans done) ⟨⟨rfl, rfl⟩, rfl, rfl, rfl, rfl, rfl⟩, ⟨rfl, rfl, rfl, rfl, rfl, rfl, rfl⟩,
        rfl, ?_⟩
      simp [State.deleted, Line.deleted, cursor, below_next]
      rfl
    · have placed := rechain_deleted (v := s.takeHead) chain is after
      have refused := deletePending_refused (v := s.takeHead) aligned placed
        (deleted_moves (v := s.takeHead) chain is more wide)
        (past.trans_eq (deleted_endPos (v := s.takeHead) chain is).symm)
      exact exec_correct_refused taken (at_i.trans ((correctAt_pending pending).trans refused))
  · have refused : s.takeHead.correction = .refused s.takeHead.click := by
      exact (if_neg state).trans (if_pos cursor)
    exact exec_correct_refused taken refused
  · intro plan lifts
    let v := s.takeHead
    have returned : v.correction = v.correctReturned := if_pos state
    have finishes {t : State} {g : List Entry} (undone : v.undoReturn plan.length = some t)
        (same : t.line = s.line ∧ s.sameSettings t ∧ t.keys = s.keys.tail ∧ t.wheel = s.wheel ∧
          t.ribbon = s.ribbon)
        (room : plan.length ≤ t.strikeFree)
        (entries : t.strikes.entries ++ number t.strikes.nextId (markGroup plan) = g) : lifts g := by
      obtain ⟨line, ⟨settings, retained⟩, keys, wheel, ribbon⟩ := same
      have samePlan : t.reopen.liftPlan c = plan := liftPlan_congr wheel ribbon settings retained
      have passes' : t.reopen.liftRefusal c = none := (liftRefusal_congr wheel ribbon).trans passes
      have does := (correctReturned_lifts (v := v) count is struck inked passes undone).trans
        (correctAt_lifts (v := t.reopen) struck inked passes' (samePlan ▸ room))
      obtain ⟨q, d, lifted, strikes⟩ := liftOff_eq i c t.reopen
      refine ⟨_, exec_correct_acts taken (returned.trans does), ?_⟩
      rw [lifted, strikes, samePlan]
      refine ⟨(appendGroup_entries (s := t.reopen) room).trans entries, ⟨settings, retained⟩, keys, ?_⟩
      simp [State.reopen, line]
    refine ⟨fun withdrawable room => ?_, fun not room => ?_⟩
    · have withdrawn : v.undoReturn plan.length = some v.withdrawReturn :=
        (if_pos withdrawable).trans (if_pos room)
      obtain ⟨line, _, wheel, _, _, _, settings, retained⟩ :=
        withdraw_frame (s := v) fun e => some e.id = v.line.returnId
      obtain ⟨ribbon, keys, next⟩ := withdraw_rest (fun e => some e.id = v.line.returnId) v
      refine finishes withdrawn ⟨line, ⟨settings, retained⟩, keys, wheel, ribbon⟩
        (room.trans (withdrawReturn_room (v := v) withdrawable few)) ?_
      rw [State.withdrawReturn, withdraw_entries, next]
      rfl
    · have free : 1 ≤ v.strikeFree := le_of_add_le_right room
      have fed : v.undoReturn plan.length = some (v.appendGroup [v.reverseFeed]) :=
        (if_neg (by exact ne_true_of_eq_false not)).trans (if_pos room)
      rw [appendGroup_one free] at fed
      refine finishes fed ⟨rfl, ⟨rfl, rfl⟩, rfl, rfl, rfl⟩ ?_ rfl
      simp only [State.strikeFree, Config.strikePlaces, List.length_append, List.length_singleton] at room ⊢
      change plan.length + 1 ≤ 32 - v.strikes.entries.length at room
      omega

end Sys2Proof.Machine
end

section
/-! Proofs about the erases: the stop index, and the deletions up to it (R39, R55, R136, R137). -/

namespace Sys2Proof.Machine

variable {s t u v : State} {c : Cell} {e : KeyEntry} {i x y w : Nat} {cs out : List Cell}

/-! ## Deletion on a line within its limit (R39, R55) -/

/-- Cells moved to the left all find their place: a TAB that holds its end only grows. -/
theorem placeFrom_left (chain : chained y cs) (left : x ≤ y) : ∃ out, placeFrom none w x cs = some out ∧
    out.map (·.id) = cs.map (·.id) ∧ out.map (·.state) = cs.map (·.state) ∧ chained x out ∧
    x + width out ≤ y + width cs := by
  induction cs generalizing x y with
  | nil => exact ⟨[], rfl, rfl, rfl, trivial, left⟩
  | cons c cs ih =>
    obtain ⟨rfl, rest⟩ := chain
    have stays : c.passes none x = false := by
      have within : ¬ max c.x (c.x + c.e) < x := by omega
      exact Bool.and_eq_false_iff.mpr (.inr (decide_eq_false within))
    have reach : x + c.placedE none w x ≤ c.x + c.e := by
      unfold Cell.placedE
      cases c.kind <;> simp only [openStop_none] <;> omega
    obtain ⟨out, placed, ids, states, chained', short⟩ := ih rest reach
    refine ⟨{ c with x := x, e := c.placedE none w x } :: out, ?_, by simp [ids], by simp [states],
      ⟨rfl, chained'⟩, ?_⟩
    · simp [placeFrom, stays, placed]
    · simp only [width_cons] at short ⊢
      omega

/-- What an erase finds and leaves of a line: every cell PENDING, within the margin lock. -/
structure State.Erasable (v : State) : Prop where
  state : v.line.state ≠ .returned
  pending : ∀ d ∈ v.line.cells, d.state = .pending
  aligned : v.text.aligned = none
  chain : v.line.Chained
  fits : v.line.endPos ≤ v.limit

theorem rechain_pending {l : Line} (pending : ∀ d ∈ l.cells, d.state = .pending) :
    rechain none l = placeFrom none 0 l.start l.cells := by
  have none_released : l.released = [] := by
    unfold Line.released
    cases cells : l.cells with
    | nil => rfl
    | cons d ds =>
      have first := pending d (by simp [cells])
      simp [first]
  have tail : l.tail = l.cells := by
    have whole : l.released ++ l.tail = l.cells := List.takeWhile_append_dropWhile
    simpa [none_released] using whole
  have start : l.tailStart = l.start := by simp [Line.tailStart, none_released, Line.endPos]
  rw [rechain, none_released, tail, start]
  simp [runWidth]

/-- A deletion on such a line is never refused, and leaves such a line. -/
theorem deletePending_erasable (h : v.Erasable) (inside : i < v.line.cells.length) :
    ∃ out, v.deletePending i = .acts (v.deleted i out) ∧ (v.deleted i out).Erasable ∧
      out.map (·.id) = (v.line.cells.take i ++ v.line.cells.drop (i + 1)).map (·.id) := by
  obtain ⟨front, at_c, rest, total⟩ := chained_around h.chain (List.getElem?_eq_getElem inside)
  let cells := v.line.cells.take i ++ v.line.cells.drop (i + 1)
  have pending : ∀ d ∈ cells, d.state = .pending := fun d member =>
    h.pending d ((List.mem_append.mp member).elim List.mem_of_mem_take List.mem_of_mem_drop)
  obtain ⟨out, placed, ids, states, chain, short⟩ :=
    placeFrom_left (w := 0) rest (Nat.le_add_right _ _)
  have replaced : rechain none (v.line.deleted i cells) = some (v.line.cells.take i ++ out) := by
    rw [rechain_pending (l := v.line.deleted i cells) pending]
    change placeFrom none 0 v.line.start (v.line.cells.take i ++ v.line.cells.drop (i + 1)) = _
    rw [placeFrom_chained front, ← at_c, placed]
    rfl
  have chained' : (v.line.deleted i (v.line.cells.take i ++ out)).Chained :=
    chained_append.mpr ⟨front, at_c ▸ chain⟩
  have fits : (v.line.deleted i (v.line.cells.take i ++ out)).endPos ≤ v.limit := by
    have fits := h.fits
    rw [endPos_eq h.chain, total] at fits
    rw [endPos_eq chained']
    simp only [Line.deleted, width_append]
    omega
  refine ⟨_, deletePending_acts h.aligned replaced (.inr fits),
    ⟨h.state, fun d member => ?_, h.aligned, chained', fits⟩, by simp [ids]⟩
  obtain there | there := List.mem_append.mp (show d ∈ v.line.cells.take i ++ out from member)
  · exact h.pending d (List.mem_of_mem_take there)
  · have listed : d.state ∈ out.map (·.state) := List.mem_map_of_mem there
    rw [states] at listed
    obtain ⟨a, was, same⟩ := List.mem_map.mp listed
    exact same ▸ h.pending a (List.mem_of_mem_drop was)

/-! ## The loop of an erase (R137) -/

/-- What an erase has done when it ends. -/
structure State.Erased (v : State) (i : Nat) (u : State) : Prop where
  cursor : u.line.cursor = i
  erase : u.text.erase = none
  ids : u.line.cells.map (·.id) =
    (v.line.cells.take i ++ v.line.cells.drop v.line.cursor).map (·.id)
  strikes : u.strikes = v.strikes
  keys : u.keys = v.keys

/-- One deletion and the erase that goes on from it are an erase. -/
theorem State.Erased.before {j : Nat} (rest : t.Erased i u)
    (ids : out.map (·.id) = (v.line.cells.take j ++ v.line.cells.drop (j + 1)).map (·.id))
    (at_j : v.line.cursor = j + 1) (ahead : i ≤ j) (here : j < v.line.cells.length)
    (line : t.line = v.line.deleted j out) (strikes : t.strikes = v.strikes) (keys : t.keys = v.keys) :
    v.Erased i u := by
  refine ⟨rest.cursor, rest.erase, rest.ids.trans ?_, rest.strikes.trans strikes,
    rest.keys.trans keys⟩
  have cursor : below j v.line.cursor = j := by rw [at_j, below_next]
  rw [line]
  simp only [Line.deleted, cursor]
  have shorter : ((v.line.cells.map (·.id)).take j).length = j := by simp; omega
  simp only [List.map_append, List.map_take, List.map_drop, ids, at_j]
  rw [List.take_append_of_le_length (by omega), List.take_take, Nat.min_eq_left (by omega),
    List.drop_left' shorter]

theorem eraseLoop_erases {k : EraseKind} (f : Nat) (v : State) (h : v.Erasable)
    (held : v.text.erase = some ⟨k, i⟩) (ahead : i ≤ v.line.cursor)
    (inside : v.line.cursor ≤ v.line.cells.length) (enough : v.line.cursor - i < f) :
    v.Erased i (v.eraseLoop f) := by
  induction f generalizing v with
  | zero => omega
  | succ f ih =>
    have cursor : v.line.correctingCursor = v.line.cursor := if_neg h.state
    unfold State.eraseLoop
    simp only [held, cursor]
    split
    next done =>
      have same : v.line.cursor = i := by omega
      exact ⟨same, rfl, by rw [← same, List.take_append_drop]; rfl, rfl, rfl⟩
    next more =>
      obtain ⟨j, at_j⟩ : ∃ j, v.line.cursor = j + 1 := ⟨v.line.cursor - 1, by omega⟩
      have here : j < v.line.cells.length := by omega
      obtain ⟨out, acts, erasable, ids⟩ := deletePending_erasable h here
      have corrects : v.correction = .acts (v.deleted j out) := by
        rw [correction_at h.state at_j (List.getElem?_eq_getElem here),
          correctAt_pending (h.pending _ (List.getElem_mem here)), acts]
      have cursor' : (v.deleted j out).line.cursor = j := by
        simp [State.deleted, Line.deleted, at_j, below_next]
      have held' : (v.deleted j out).text.erase = some ⟨k, i⟩ := by
        have stop : below j i = i := if_neg (by omega)
        simp [State.deleted, held, stop]
      have count : out.length = v.line.cells.length - 1 := by
        have := congrArg List.length ids
        simp at this
        omega
      have rest := ih (v.deleted j out) erasable held' (by omega)
        (by rw [cursor']; change j ≤ out.length; omega) (by omega)
      rw [corrects]
      exact rest.before ids at_j (by omega) here rfl rfl rfl

/-! ## The stop index (R136) -/

/-- The cells that `takeWhile` takes, by their places. -/
theorem takeWhile_span {α : Type} (p : α → Bool) (l : List α) :
    (∀ k < (l.takeWhile p).length, ∃ a, l[k]? = some a ∧ p a = true) ∧
      ∀ a, l[(l.takeWhile p).length]? = some a → p a = false := by
  induction l with
  | nil => simp
  | cons b bs ih =>
    obtain ⟨taken, left⟩ := ih
    cases keeps : p b with
    | false => simp [keeps]
    | true =>
      simp only [List.takeWhile_cons, keeps, if_true, List.length_cons]
      refine ⟨fun k below => ?_, fun a is => left a (by simpa using is)⟩
      cases k with
      | zero => exact ⟨b, rfl, keeps⟩
      | succ k => exact taken k (by omega)

/-- The cells before an index, nearest first. -/
theorem leftward_get {l : List Cell} {c k : Nat} (inside : c ≤ l.length) (before : k < c) :
    (l.take c).reverse[k]? = l[c - 1 - k]? := by
  rw [List.getElem?_reverse (by simp; omega), List.length_take, Nat.min_eq_left inside,
    List.getElem?_take_of_lt (by omega)]

/-- R136's search from an index: across SPACE cells, then across cells that are neither SPACE nor TAB. -/
def StopsAt (l : List Cell) (c i : Nat) : Prop :=
  let kind (j : Nat) : Option CellKind := l[j]?.map (·.kind)
  if kind (c - 1) = some .tab then i = c - 1
  else ∃ m, i ≤ m ∧ m ≤ c ∧ (∀ j, m ≤ j → j < c → kind j = some .space) ∧
    (0 < m → kind (m - 1) ≠ some .space) ∧
    (∀ j, i ≤ j → j < m → kind j ≠ some .space ∧ kind j ≠ some .tab) ∧
    (0 < i → kind (i - 1) = some .space ∨ kind (i - 1) = some .tab)

theorem wordStop_stops {l : List Cell} {c : Nat} (some_cell : 1 ≤ c) (inside : c ≤ l.length) :
    StopsAt l c (wordStop l c) ∧ wordStop l c < c := by
  let leftward := (l.take c).reverse
  have count : leftward.length = c := by simp [leftward, inside]
  have get {k : Nat} (before : k < c) : leftward[k]? = l[c - 1 - k]? := leftward_get inside before
  obtain ⟨h, head⟩ : ∃ h, leftward.head? = some h := by
    rw [List.head?_eq_getElem?]
    exact ⟨_, List.getElem?_eq_getElem (by omega)⟩
  have last : l[c - 1]? = some h := by
    rw [← head, List.head?_eq_getElem?, get some_cell, Nat.sub_zero]
  let spaces := (leftward.takeWhile fun c => c.kind = .space).length
  let others := ((leftward.drop spaces).takeWhile fun c => c.kind ≠ .space && c.kind ≠ .tab).length
  have spaces_le : spaces ≤ c := count ▸ (List.takeWhile_prefix _).length_le
  have others_le : spaces + others ≤ c := by
    have := (List.takeWhile_prefix (l := leftward.drop spaces)
      fun c => c.kind ≠ .space && c.kind ≠ .tab).length_le
    rw [List.length_drop, count] at this
    change others ≤ _ at this
    omega
  obtain ⟨areSpaces, thenOther⟩ := takeWhile_span (fun c : Cell => decide (c.kind = .space)) leftward
  obtain ⟨areOthers, thenBlank⟩ := takeWhile_span
    (fun c : Cell => c.kind ≠ .space && c.kind ≠ .tab) (leftward.drop spaces)
  have is : wordStop l c = if h.kind = .tab then c - 1 else c - (spaces + others) := by
    unfold wordStop
    simp only [show (l.take c).reverse.head? = some h from head]
    rfl
  unfold StopsAt
  simp only [last, Option.map_some, Option.some_inj]
  by_cases tab : h.kind = .tab
  · have stop : wordStop l c = c - 1 := is.trans (if_pos tab)
    rw [if_pos tab]
    omega
  · have stop : wordStop l c = c - (spaces + others) := is.trans (if_neg tab)
    rw [if_neg tab, stop]
    refine ⟨⟨c - spaces, by omega, by omega, fun j from' below => ?_, fun more => ?_,
      fun j from' below => ?_, fun more => ?_⟩, ?_⟩
    · obtain ⟨a, at_k, space⟩ := areSpaces (c - 1 - j) (by change _ < spaces; omega)
      rw [get (by omega), show c - 1 - (c - 1 - j) = j by omega] at at_k
      simpa [at_k] using space
    · intro space
      obtain ⟨a, at_m, kind⟩ := Option.map_eq_some_iff.mp space
      have other := thenOther a (by
        change leftward[spaces]? = _
        rw [get (by omega), show c - 1 - spaces = c - spaces - 1 by omega, at_m])
      simp [kind] at other
    · obtain ⟨a, at_k, other⟩ := areOthers (c - spaces - 1 - j) (by change _ < others; omega)
      rw [List.getElem?_drop, get (by omega),
        show c - 1 - (spaces + (c - spaces - 1 - j)) = j by omega] at at_k
      simpa [at_k] using other
    · have there : c - (spaces + others) - 1 < l.length := by omega
      have blank := thenBlank l[c - (spaces + others) - 1] (by
        change (leftward.drop spaces)[others]? = _
        rw [List.getElem?_drop, get (by omega),
          show c - 1 - (spaces + others) = c - (spaces + others) - 1 by omega,
          List.getElem?_eq_getElem there])
      rw [List.getElem?_eq_getElem there]
      simp at blank
      simp
      tauto
    · have some_span : 1 ≤ spaces + others := by
        by_contra none
        have noSpace : spaces = 0 := by omega
        have noOther : others = 0 := by omega
        have notSpace := thenOther h (by
          change leftward[spaces]? = _
          rw [noSpace, ← List.head?_eq_getElem?, head])
        have notOther := thenBlank h (by
          change (leftward.drop spaces)[others]? = _
          rw [noOther, noSpace, List.drop_zero, ← List.head?_eq_getElem?, head])
        simp at notSpace notOther
        exact tab (notOther notSpace)
      omega

/-! ## The keys -/

/-- An erase's first correction and the rest of them. -/
theorem eraseOn_erases (k : EraseKind) (h : v.Erasable) (some_cell : 1 ≤ v.line.cursor)
    (inside : v.line.cursor ≤ v.line.cells.length) (few : v.line.cells.length ≤ 160)
    (stop : v.line.eraseStop k < v.line.cursor) :
    ∃ u, v.eraseOn k = some u ∧ v.Erased (v.line.eraseStop k) u := by
  obtain ⟨j, at_j⟩ : ∃ j, v.line.cursor = j + 1 := ⟨v.line.cursor - 1, by omega⟩
  have here : j < v.line.cells.length := by omega
  obtain ⟨out, acts, erasable, ids⟩ := deletePending_erasable h here
  have corrects : v.correction = .acts (v.deleted j out) := by
    rw [correction_at h.state at_j (List.getElem?_eq_getElem here),
      correctAt_pending (h.pending _ (List.getElem_mem here)), acts]
  have count : out.length = v.line.cells.length - 1 := by
    have := congrArg List.length ids
    simp at this
    omega
  have cursor : (v.deleted j out).line.cursor = j := by
    simp [State.deleted, Line.deleted, at_j, below_next]
  let w : State := { v.deleted j out with
    text := { (v.deleted j out).text with erase := some ⟨k, v.line.eraseStop k⟩ } }
  have loops := eraseLoop_erases 320 w ⟨erasable.state, erasable.pending, erasable.aligned,
    erasable.chain, erasable.fits⟩ rfl (by change _ ≤ (v.deleted j out).line.cursor; omega)
    (by change (v.deleted j out).line.cursor ≤ out.length; omega)
    (by change (v.deleted j out).line.cursor - _ < _; omega)
  refine ⟨w.eraseLoop 320, ?_, loops.before ids at_j (by omega) here rfl rfl rfl⟩
  unfold State.eraseOn
  rw [corrects]
  rfl

/-- Settles O31: the cells of the span are erased one after the other. -/
theorem erasesDeletePendingCells : Obligations.ErasesDeletePendingCells := by
  intro s e state inside few some_cell pending aligned chain fits erased kind stops
  have erasable : s.takeHead.Erasable := ⟨state, pending, aligned, chain, fits⟩
  obtain ⟨stopsAt, before⟩ := wordStop_stops some_cell inside
  refine ⟨fun taken => ?_, fun taken => ?_, fun k i live held ahead => ?_⟩
  · have stop : s.takeHead.line.eraseStop .word = wordStop s.line.cells s.line.cursor :=
      congrArg (wordStop _) (if_neg state)
    obtain ⟨u, acts, done⟩ := eraseOn_erases .word erasable some_cell inside few (stop ▸ before)
    rw [stop] at done
    exact ⟨u, _, exec_takes rfl taken acts, stopsAt,
      ⟨done.cursor, done.erase, done.ids, done.strikes⟩, done.keys⟩
  · obtain ⟨u, acts, done⟩ := eraseOn_erases .line erasable some_cell inside few some_cell
    exact ⟨u, exec_takes rfl taken acts, ⟨done.cursor, done.erase, done.ids, done.strikes⟩, done.keys⟩
  · let u : State := { s with text := { s.text with eraseDue := true } }
    have done := eraseLoop_erases 320 u ⟨state, pending, aligned, chain, fits⟩ held ahead inside
      (by change s.line.cursor - i < 320; omega)
    refine ⟨u, _, ?_, rfl, done.cursor, done.erase, done.ids, done.strikes⟩
    change execEraseStep s = _
    simp [execEraseStep, live, u]

end Sys2Proof.Machine
end

section
/-! Proofs about the Dictionary Port: headers, buckets and verdicts (R147, R148, R150 to R152). -/

namespace Sys2Proof.Machine

variable {s u v : State} {l : Lookup} {r : WordRecord} {rom : Rom} {data : List Byte} {ws : List Nat}

theorem exec_read {n : Nat} (live : s.live = true) (takes : s.spell.port.takes = some n)
    (length : data.length = n) :
    exec (.dictReadComplete data) s = .next ((s.dictRead data).conclude s) := by
  change execDictReadComplete data s = _
  simp [execDictReadComplete, live, takes, length]

/-! ## Headers (R152) -/

theorem headerStatus_eq (b0 b1 b2 b3 x : Byte) (more : List Byte) :
    headerStatus (b0 :: b1 :: b2 :: b3 :: x :: more) =
      (if [b0, b1, b2, b3] = ([0x4E, 0x44, 0x58, 0x31] : List Byte) ∧ 8 ≤ x.toNat ∧ x.toNat ≤ 13
        then .present (2 ^ x.toNat) else .absent,
      decide ([b0, b1, b2, b3] = ([0x4E, 0x44, 0x58, 0x31] : List Byte) ∧
        ¬ (8 ≤ x.toNat ∧ x.toNat ≤ 13))) := by
  unfold headerStatus
  by_cases marked : [b0, b1, b2, b3] = ([0x4E, 0x44, 0x58, 0x31] : List Byte)
  · have front : (b0 :: b1 :: b2 :: b3 :: x :: more).take 4 = [0x4E, 0x44, 0x58, 0x31] := marked
    rw [if_pos front]
    by_cases inRange : 8 ≤ x.toNat ∧ x.toNat ≤ 13
    · simp [marked, inRange]
    · rw [if_neg (by simp [inRange])]
      simp [marked, inRange]
  · have front : ¬ (b0 :: b1 :: b2 :: b3 :: x :: more).take 4 = [0x4E, 0x44, 0x58, 0x31] := marked
    rw [if_neg front, if_neg fun both => marked both.1, decide_eq_false fun both => marked both.1]

/-- With no lookup waiting none starts. -/
theorem startLookup_none {sp : Spelling} (empty : sp.lookups = []) : sp.startLookup = sp := by
  unfold Spelling.startLookup
  split <;> simp_all

/-- The state in which a header has been read. -/
theorem mainHeader_reads (live : s.live = true) (port : s.spell.port = .header .main)
    (waits : s.spell.supplement = .notRead) (length : data.length = 16) :
    exec (.dictReadComplete data) s = .next (({ s with spell := { s.spell with
      main := (headerStatus data).1, mainFormat := (headerStatus data).2,
      port := .header .supplement } } : State).conclude s) := by
  have run := exec_read live (by rw [port]; rfl) length
  have reads : s.dictRead data = (s.headerRead .main data).checkReady := by simp [State.dictRead, port]
  have unread : (s.headerRead .main data).spell.headersRead = false := by
    simp [State.headerRead, Spelling.headersRead, waits]
  have stays : (s.headerRead .main data).checkReady = s.headerRead .main data := by
    cases startup : (s.headerRead .main data).seq.startup with
    | none => exact checkReady_none startup
    | some p =>
      exact checkReady_waits startup fun ready => by simp [partsEnded_iff, unread] at ready
  rw [run, reads, stays]
  rfl

/-- The Spelling Unit as the supplement's header leaves it. -/
def Spelling.supplemented (sp : Spelling) (data : List Byte) : Spelling :=
  { sp with supplement := (headerStatus data).1, suppFormat := (headerStatus data).2, port := .idle }

theorem supplementHeader_eq (data : List Byte) (s : State) : s.headerRead .supplement data =
    { s.raise .dict [0, byteOf s.spell.main.number, byteOf (headerStatus data).1.number,
        byteOf (bit s.spell.mainFormat + 2 * bit (headerStatus data).2)] with
      spell := (s.spell.supplemented data).startLookup } := rfl

/-- READY may follow; it leaves the statuses, the port and the DICT row. -/
theorem checkReady_spelling (s : State) : ∃ l t q p d n, s.checkReady =
    { s with line := l, text := t, seq := q, spell := p, display := d, notices := n } ∧
    p.port = s.spell.port ∧ p.main = s.spell.main ∧ p.supplement = s.spell.supplement ∧
    n.rows.dict = s.notices.rows.dict := by
  unfold State.checkReady
  repeat' split
  all_goals exact ⟨_, _, _, _, _, _, rfl, rfl, rfl, rfl, rfl⟩

/-! ## Verdicts (R147, R148) -/

/-- A record's state as a verdict leaves it. -/
def judged (id : Nat) (st : WordState) (q : WordRecord) : WordRecord :=
  if q.id = id then { q with state := st } else q

theorem judged_state {id : Nat} {st : WordState} {q : WordRecord} (own : (judged id st q).id = id) :
    (judged id st q).state = st := by
  unfold judged at own ⊢
  split
  · rfl
  · simp_all

theorem record_setRecord {sp : Spelling} {id : Nat} (st : WordState) (is : sp.record id = some r) :
    (sp.setRecord id st).record id = some { r with state := st } := by
  obtain ⟨here, before, after, table, others⟩ := List.find?_eq_some_iff_append.mp is
  refine List.find?_eq_some_iff_append.mpr ⟨here, before.map (judged id st), after.map (judged id st),
    ?_, fun q member => ?_⟩
  · have here : r.id = id := by simpa using here
    simp [Spelling.setRecord, table, here]
    rfl
  · obtain ⟨p, was, rfl⟩ := List.mem_map.mp member
    have other := others p was
    unfold judged
    split <;> simpa using other

/-- A word that the User Word List holds, or a ROM, is KNOWN. -/
theorem verdict_known (found : Bool) (knows : found = true ∨ l.letters ∈ s.retained.words) :
    s.verdict l found = { s with spell := s.spell.setRecord l.id .known } := by
  have known : (found || s.retained.words.contains l.letters) = true := by simpa using knows
  unfold State.verdict
  rw [if_pos known]

/-- A word found nowhere is UNKNOWN: the SPELL tone, a SPELL notice, and a message where no cell of it is
kept back. -/
theorem verdict_unknown (unlisted : ¬ l.letters ∈ s.retained.words)
    (is : s.spell.record l.id = some r) (accepted : r.accepted = false) :
    ∃ n d, s.verdict l false = { s with
      spell := s.spell.setRecord l.id .unknown
      tone := s.tone.request s.settings.volume .spell false
      notices := n, display := d } ∧
      n.rows.spell = s.notices.rows.spell.occur (0x00 :: byteOf l.id :: s.typedCodes r) ∧
      n.rows.dict = s.notices.rows.dict ∧
      d.slot =
        if s.effMode = .hold ∧ ∃ c ∈ s.line.cells, c.state = .pending ∧ c.wordId = some l.id
        then s.display.slot else some ⟨ascii "? " ++ s.typedCodes r, true, some l.id⟩ := by
  have here : r.id = l.id := by simpa using (List.find?_eq_some_iff_append.mp is).1
  let q : WordRecord := { r with state := .unknown }
  let v : State := { s with spell := s.spell.setRecord l.id .unknown }
  have found : v.spell.record l.id = some q := record_setRecord .unknown is
  let w : State := (v.requestTone .spell false).raiseSpell 0 q
  have result : s.verdict l false =
      if w.effMode = .hold && w.recordKept q then w else w.putMessage (w.wordText q) (some q.id) := by
    have unknown : ¬ (false || s.retained.words.contains l.letters) = true := by simpa using unlisted
    unfold State.verdict
    rw [if_neg unknown]
    simp only [show (s.spell.setRecord l.id .unknown).record l.id = some q from found]
    rfl
  have kept : (w.effMode = .hold && w.recordKept q) = true ↔
      s.effMode = .hold ∧ ∃ c ∈ s.line.cells, c.state = .pending ∧ c.wordId = some l.id := by
    rw [Bool.and_eq_true, decide_eq_true_eq]
    refine and_congr_right fun hold => ?_
    rw [recordKept_of_record (r := q) hold (here ▸ found) ⟨rfl, accepted⟩]
    unfold State.HasPending
    rw [show q.id = l.id from here]
    rfl
  have note : w.notices.rows.spell =
      s.notices.rows.spell.occur (0x00 :: byteOf l.id :: s.typedCodes r) :=
    congrArg (fun i => s.notices.rows.spell.occur (0x00 :: byteOf i :: s.typedCodes r)) here
  rw [result]
  by_cases keeps : s.effMode = .hold ∧ ∃ c ∈ s.line.cells, c.state = .pending ∧ c.wordId = some l.id
  · rw [if_pos (kept.mpr keeps), if_pos keeps]
    exact ⟨w.notices, w.display, rfl, note, rfl, rfl⟩
  · rw [if_neg (mt kept.mp keeps), if_neg keeps]
    refine ⟨w.notices, (w.putMessage (w.wordText q) (some q.id)).display, rfl, note, rfl, ?_⟩
    rw [← here]
    rfl

/-! ## The end of a search (R147) -/

/-- The Spelling Unit with no lookup in progress. -/
def Spelling.rested (sp : Spelling) : Spelling := { sp with lookup := none, port := .idle }

/-- A lookup in progress ends, and with none waiting the port rests. -/
theorem endLookup_eq {found : Bool} (kept : l.dropped = false)
    (none : (s.verdict l found).spell.lookups = []) : s.endLookup l found =
      { s.verdict l found with spell := (s.verdict l found).spell.rested } := by
  unfold State.endLookup
  simp only [kept, Bool.false_eq_true, if_false]
  exact congrArg (fun p => { s.verdict l found with spell := p })
    (startLookup_none (sp := (s.verdict l found).spell.rested) none)

theorem endLookup_known {found : Bool} (kept : l.dropped = false) (none : s.spell.lookups = [])
    (knows : found = true ∨ l.letters ∈ s.retained.words) : s.endLookup l found =
      { s with spell := (s.spell.setRecord l.id .known).rested } := by
  have verdict := verdict_known found knows
  rw [endLookup_eq kept (by rw [verdict]; exact none), verdict]

theorem endLookup_unknown (kept : l.dropped = false) (none : s.spell.lookups = [])
    (unlisted : ¬ l.letters ∈ s.retained.words) (is : s.spell.record l.id = some r)
    (accepted : r.accepted = false) : ∃ n d, s.endLookup l false = { s with
      spell := (s.spell.setRecord l.id .unknown).rested
      tone := s.tone.request s.settings.volume .spell false
      notices := n, display := d } ∧
      n.rows.spell = s.notices.rows.spell.occur (0x00 :: byteOf l.id :: s.typedCodes r) ∧
      n.rows.dict = s.notices.rows.dict ∧
      d.slot =
        if s.effMode = .hold ∧ ∃ c ∈ s.line.cells, c.state = .pending ∧ c.wordId = some l.id
        then s.display.slot else some ⟨ascii "? " ++ s.typedCodes r, true, some l.id⟩ := by
  obtain ⟨n, d, verdict, note, dict, slot⟩ := verdict_unknown unlisted is accepted
  refine ⟨n, d, ?_, note, dict, slot⟩
  rw [endLookup_eq kept (by rw [verdict]; exact none), verdict]

/-- A word that no ROM has is searched in a PRESENT supplement after the main ROM, else its result is
given. -/
theorem romEnded_found (l : Lookup) (rom : Rom) (s : State) :
    s.romEnded l rom true = s.endLookup l true := by
  cases rom <;> rfl
theorem romEnded_goesOn {n : Nat} (supplement : s.spell.supplement = .present n) (l : Lookup) :
    s.romEnded l .main false = { s with spell := s.spell.searchRom l .supplement n } := by
  simp [State.romEnded, supplement, DictStatus.count]
theorem romEnded_ends (last : rom = .supplement ∨ ∀ n, s.spell.supplement ≠ .present n) (l : Lookup) :
    s.romEnded l rom false = s.endLookup l false := by
  unfold State.romEnded
  cases supplement : s.spell.supplement <;> cases rom <;> simp_all [DictStatus.count]

/-! ## Buckets (R150) -/

theorem searchSlots_found {sig j : Nat} {ws : List Nat} (is : ws[j]? = some sig)
    (before : ∀ k, k < j → ws[k]? ≠ some 0xFFFF) : searchSlots sig ws = .found := by
  induction ws generalizing j with
  | nil => simp at is
  | cons w ws ih =>
    unfold searchSlots
    split
    next => rfl
    next other =>
      cases j with
      | zero => exact absurd (by simpa using is) other
      | succ j =>
        rw [if_neg fun empty => before 0 (Nat.succ_pos j) (by simp [empty])]
        exact ih (by simpa using is) fun k below => by simpa using before (k + 1) (by omega)

theorem searchSlots_stop {sig j : Nat} {ws : List Nat} (is : ws[j]? = some 0xFFFF) (apart : sig ≠ 0xFFFF)
    (before : ∀ k, k < j → ws[k]? ≠ some 0xFFFF ∧ ws[k]? ≠ some sig) : searchSlots sig ws = .stop := by
  induction ws generalizing j with
  | nil => simp at is
  | cons w ws ih =>
    unfold searchSlots
    cases j with
    | zero =>
      have empty : w = 0xFFFF := by simpa using is
      rw [if_neg (by omega), if_pos empty]
    | succ j =>
      obtain ⟨notEmpty, notIt⟩ := before 0 (Nat.succ_pos j)
      rw [if_neg fun it => notIt (by simp [it]), if_neg fun empty => notEmpty (by simp [empty])]
      exact ih (by simpa using is) fun k below => by simpa using before (k + 1) (by omega)

theorem searchSlots_full {sig : Nat} {ws : List Nat}
    (none : ∀ w ∈ ws, w ≠ 0xFFFF ∧ w ≠ sig) : searchSlots sig ws = .full := by
  induction ws with
  | nil => rfl
  | cons w ws ih =>
    obtain ⟨⟨notEmpty, notIt⟩, rest⟩ := List.forall_mem_cons.mp none
    rw [searchSlots, if_neg notIt, if_neg notEmpty]
    exact ih rest

/-- The first fifteen words of a bucket are its slots. -/
theorem slot_get {j : Nat} (slot : j < 15) : (ws.take 15)[j]? = ws[j]? :=
  List.getElem?_take_of_lt slot

/-- A lookup whose bucket has been read once more. -/
def Lookup.readOnce (l : Lookup) : Lookup := { l with reads := l.reads + 1 }

/-- What a bucket of a lookup in progress leads to. -/
theorem bucketRead_eq (lookup : s.spell.lookup = some l) (words : wides data = some ws) :
    s.bucketRead rom data = match searchSlots (signature l.letters) (ws.take 15) with
      | .found => s.romEnded l.readOnce rom true
      | .stop => s.romEnded l.readOnce rom false
      | .full =>
        if ws.getD 15 0xFFFF = 0xFFFF then s.romEnded l.readOnce rom false
        else if (s.spell.status rom).count.getD 0 ≤ ws.getD 15 0xFFFF then
          (if l.dropped then s else s.raiseDict 1 (rom = .main) (rom = .supplement)).romEnded
            l.readOnce rom false
        else if 3 ≤ l.reads then s.romEnded l.readOnce rom false
        else { s with spell := { s.spell with
          lookup := some l.readOnce, port := .bucket rom (ws.getD 15 0xFFFF) } } := by
  have fourth : 4 ≤ l.reads + 1 ↔ 3 ≤ l.reads := by omega
  unfold State.bucketRead
  rw [lookup]
  simp only [bucketWords, words, Option.getD_some, fourth]
  rfl

/-- A ROM has not found the word of a lookup: a PRESENT supplement is searched after the main ROM, else
the User Word List is compared once more. -/
def State.Missed (s : State) (l : Lookup) (r : WordRecord) (rom : Rom) (u : State) : Prop :=
  u.line = s.line ∧ u.strikes = s.strikes ∧ s.sameSettings u ∧ s.sameMechanism u ∧
    match rom, s.spell.supplement with
    | .main, .present n =>
      u.spell.lookup = some { l with rom := .supplement, reads := 0 } ∧
        u.spell.port = .bucket .supplement (hashA l.letters % n) ∧
        u.spell.table = s.spell.table ∧ u.tone = s.tone
    | _, _ => u.spell.lookup = none ∧ u.spell.port = .idle ∧
      if l.letters ∈ s.retained.words then
        u.spell.table = s.spell.table.map (fun q =>
          if q.id = l.id then { q with state := .known } else q) ∧ u.tone = s.tone
      else u.spell.table = s.spell.table.map (fun q =>
          if q.id = l.id then { q with state := .unknown } else q) ∧
        u.tone = s.tone.request s.settings.volume .spell false ∧
        u.notices.rows.spell =
          s.notices.rows.spell.occur (0x00 :: byteOf l.id :: s.typedCodes r) ∧
        u.display.slot =
          if s.effMode = .hold ∧ ∃ c ∈ s.line.cells, c.state = .pending ∧ c.wordId = some l.id
          then s.display.slot
          else some ⟨ascii "? " ++ s.typedCodes r, true, some l.id⟩

theorem missed_iff_last (last : rom = .supplement ∨ ∀ n, s.spell.supplement ≠ .present n) :
    s.Missed l r rom u ↔ u.line = s.line ∧ u.strikes = s.strikes ∧ s.sameSettings u ∧
      s.sameMechanism u ∧ u.spell.lookup = none ∧ u.spell.port = .idle ∧
      if l.letters ∈ s.retained.words then
        u.spell.table = s.spell.table.map (judged l.id .known) ∧ u.tone = s.tone
      else u.spell.table = s.spell.table.map (judged l.id .unknown) ∧
        u.tone = s.tone.request s.settings.volume .spell false ∧
        u.notices.rows.spell =
          s.notices.rows.spell.occur (0x00 :: byteOf l.id :: s.typedCodes r) ∧
        u.display.slot =
          if s.effMode = .hold ∧ ∃ c ∈ s.line.cells, c.state = .pending ∧ c.wordId = some l.id
          then s.display.slot
          else some ⟨ascii "? " ++ s.typedCodes r, true, some l.id⟩ := by
  unfold State.Missed
  cases supplement : s.spell.supplement <;> cases rom
  case present.main n => exact absurd supplement (last.resolve_left (by simp) n)
  all_goals exact Iff.rfl

theorem romEnded_misses (kept : l.dropped = false) (none : s.spell.lookups = [])
    (is : s.spell.record l.id = some r) (accepted : r.accepted = false) {n : NoticeTable}
    (row : n.rows.spell = s.notices.rows.spell) :
    s.Missed l r rom (({ s with notices := n } : State).romEnded l.readOnce rom false) ∧
      (({ s with notices := n } : State).romEnded l.readOnce rom false).notices.rows.dict =
        n.rows.dict := by
  let v : State := { s with notices := n }
  by_cases last : rom = .supplement ∨ ∀ n, s.spell.supplement ≠ .present n
  · rw [romEnded_ends (s := v) last, missed_iff_last last]
    by_cases listed : l.letters ∈ s.retained.words
    · rw [endLookup_known (s := v) (l := l.readOnce) kept none (.inr listed), if_pos listed]
      exact ⟨⟨rfl, rfl, ⟨rfl, rfl⟩, ⟨rfl, rfl, rfl, rfl, rfl, rfl, rfl⟩, rfl, rfl, rfl, rfl⟩, rfl⟩
    · obtain ⟨m, d, ends, note, dict, slot⟩ :=
        endLookup_unknown (s := v) (l := l.readOnce) kept none listed is accepted
      rw [ends, if_neg listed]
      exact ⟨⟨rfl, rfl, ⟨rfl, rfl⟩, ⟨rfl, rfl, rfl, rfl, rfl, rfl, rfl⟩, rfl, rfl, rfl, rfl,
        note.trans (by rw [show v.notices = n from rfl, row]; rfl), slot⟩, dict⟩
  · obtain ⟨notSupplement, someCount⟩ := not_or.mp last
    obtain ⟨count, present⟩ := not_forall_not.mp someCount
    have main : rom = .main := by cases rom <;> simp_all
    subst main
    rw [romEnded_goesOn (s := v) present]
    refine ⟨?_, rfl⟩
    unfold State.Missed
    rw [present]
    exact ⟨rfl, rfl, ⟨rfl, rfl⟩, ⟨rfl, rfl, rfl, rfl, rfl, rfl, rfl⟩, rfl, rfl, rfl, rfl⟩

/-! ## Reads of the port (R151) -/

theorem byteOf_toNat (n : Nat) : (byteOf n).toNat = n % 256 := BitVec.toNat_ofNat n 8

/-- A read's command and address, high byte first. -/
theorem bucket_sends (rom : Rom) {b : Nat} (inside : b < 8192) : ∃ h m l : Byte,
    (DictPort.bucket rom b).sends = [0x03, h, m, l] ∧
      65536 * h.toNat + 256 * m.toNat + l.toNat = 16 + 32 * b := by
  refine ⟨_, _, _, rfl, ?_⟩
  simp only [byteOf_toNat]
  omega

/-- The status number and the FORMAT bits of a header, as a DICT notice carries them. -/
theorem header_number (marked inRange : Prop) [Decidable marked] [Decidable inRange] (n : Nat) :
    byteOf (if marked ∧ inRange then DictStatus.present n else .absent).number =
      if marked ∧ inRange then 2 else 1 := by
  split <;> rfl
theorem header_bits (format : Bool) (p : Prop) [Decidable p] :
    byteOf (bit format + 2 * bit (decide p)) =
      byteOf ((if format then 1 else 0) + if p then 2 else 0) := by
  unfold bit
  by_cases h : p <;> simp [h]

theorem headerStatus_read (data : List Byte) : (headerStatus data).1 ≠ .notRead := by
  unfold headerStatus
  repeat' split
  all_goals simp

/-- The supplement's header is read (R152, R188). -/
theorem suppHeader_reads (live : s.live = true) (port : s.spell.port = .header .supplement)
    (length : data.length = 16) : exec (.dictReadComplete data) s =
      .next (((s.headerRead .supplement data).checkReady).conclude s) := by
  have reads : s.dictRead data = (s.headerRead .supplement data).checkReady := by
    simp [State.dictRead, port]
  rw [← reads]
  exact exec_read live (by rw [port]; rfl) length

theorem bucket_reads {i : Nat} (live : s.live = true) (port : s.spell.port = .bucket rom i)
    (length : data.length = 32) :
    exec (.dictReadComplete data) s = .next ((s.bucketRead rom data).conclude s) := by
  have reads : s.dictRead data = s.bucketRead rom data := by simp [State.dictRead, port]
  rw [← reads]
  exact exec_read live (by rw [port]; rfl) length

/-- Settles O47: a header by what `headerStatus` reads, a bucket by what its slots say of the signature. -/
theorem dictionaryReadsAreJudged : Obligations.DictionaryReadsAreJudged := by
  refine ⟨fun s data live port waits length => ?_, fun s data live port length => ?_,
    fun s data ws l rom i j live port lookup kept none _ length words slot is before => ?_,
    fun s data ws l rom i count r live port lookup kept none record accepted status length words => ?_,
    fun rom b inside => ⟨rfl, rfl, by cases rom <;> rfl, bucket_sends rom inside⟩⟩
  · refine ⟨_, mainHeader_reads live port waits length, rfl, rfl, fun b0 b1 b2 b3 x more is => ?_,
      fun b0 b1 b2 b3 x more is => ?_, rfl, rfl, rfl, rfl⟩ <;>
    · subst is
      simp only [headerStatus_eq]
  · obtain ⟨l', t', q', p', d', n', ready, sport, main, supplement, dict⟩ :=
      checkReady_spelling (s.headerRead .supplement data)
    rw [supplementHeader_eq] at sport main supplement dict
    refine ⟨_, suppHeader_reads live port length, fun none => ?_, ?_,
      fun b0 b1 b2 b3 x more is => ⟨?_, ?_⟩, fun p startup mech carrier wheel sensing read => ?_, ?_⟩
    · rw [ready]
      refine sport.trans ?_
      rw [startLookup_none (by exact none)]
      rfl
    · rw [ready]
      exact main.trans (startLookup_main _)
    · rw [ready]
      refine supplement.trans ((startLookup_supplement _).trans ?_)
      subst is
      simp only [Spelling.supplemented, headerStatus_eq]
    · rw [ready]
      refine dict.trans ?_
      subst is
      simp only [headerStatus_eq, header_number, header_bits]
      cases s.spell.main <;> rfl
    · have headers : (s.headerRead .supplement data).spell.headersRead = true := by
        rw [supplementHeader_eq]
        simp [Spelling.headersRead, startLookup_main, Spelling.supplemented, read, headerStatus_read]
      rw [checkReady_ready (p := p) (by exact startup) (by exact mech)
        (partsEnded_iff.mpr ⟨carrier, wheel, sensing, headers⟩)]
      exact ⟨rfl, rfl, rfl⟩
    · rw [ready]
      exact ⟨rfl, rfl, rfl⟩
  · have found : searchSlots (signature l.letters) (ws.take 15) = .found :=
      searchSlots_found ((slot_get slot).trans is) fun k below =>
        (slot_get (by omega)).trans_ne (before k below)
    refine ⟨_, bucket_reads live port length, ?_⟩
    rw [bucketRead_eq lookup words, found]
    simp only [romEnded_found]
    rw [endLookup_known (l := l.readOnce) kept none (.inl rfl)]
    refine ⟨rfl, rfl, fun q member own => ?_, rfl, rfl, rfl, rfl, rfl⟩
    obtain ⟨p, _, rfl⟩ := List.mem_map.mp member
    exact judged_state own
  · have reads := bucket_reads live port length
    rw [bucketRead_eq lookup words] at reads
    have bound : (s.spell.status rom).count.getD 0 = count := by
      cases rom <;> simp_all [Spelling.status, DictStatus.count]
    have misses := romEnded_misses (rom := rom) kept none record accepted (n := s.notices) rfl
    refine ⟨fun j slot is apart before => ?_, fun next full is => ?_⟩
    · have stop : searchSlots (signature l.letters) (ws.take 15) = .stop :=
        searchSlots_stop ((slot_get slot).trans is) apart fun k below => by
          rw [slot_get (by omega)]
          exact before k below
      rw [stop] at reads
      exact ⟨_, ⟨reads, misses.1⟩, misses.2⟩
    · have missing : searchSlots (signature l.letters) (ws.take 15) = .full := by
        refine searchSlots_full fun w member => ?_
        obtain ⟨k, below, rfl⟩ := List.mem_iff_getElem.mp member
        have slot : k < 15 := by simp at below; omega
        have same : ws[k]? = some ((ws.take 15)[k]) := by
          rw [← slot_get slot, List.getElem?_eq_getElem below]
        obtain ⟨notEmpty, notIt⟩ := full k slot
        rw [same] at notEmpty notIt
        exact ⟨fun h => notEmpty (congrArg some h), fun h => notIt (congrArg some h)⟩
      have last : ws.getD 15 0xFFFF = next := by simp [List.getD, is]
      rw [missing] at reads
      simp only [last, bound, kept, Bool.false_eq_true, if_false] at reads
      refine ⟨fun ends => ?_, fun goesOn broken => ?_, fun goesOn sound few => ?_⟩
      · refine ⟨_, ⟨?_, misses.1⟩, misses.2⟩
        refine reads.trans ?_
        rcases ends with ended | ⟨sound, goesOn, fourth⟩
        · rw [if_pos ended]
        · rw [if_neg goesOn, if_neg (by omega), if_pos fourth]
      · rw [if_neg goesOn, if_pos broken] at reads
        obtain ⟨missed, dict⟩ := romEnded_misses (rom := rom) kept none record accepted
          (n := (s.raiseDict 1 (rom = .main) (rom = .supplement)).notices) rfl
        refine ⟨_, ⟨reads, missed⟩, dict.trans ?_⟩
        cases rom <;> rfl
      · rw [if_neg goesOn, if_neg (by omega), if_neg (by omega)] at reads
        exact ⟨_, reads, rfl, rfl, rfl, rfl, rfl, rfl, rfl⟩

end Sys2Proof.Machine
end

section
/-! Proofs about POSITION: the motions of an entry, their ends, and what becomes of the head entry that is
taken up (R75 to R78, R82, R86, R89, R90, R96, R106). -/

namespace Sys2Proof.Machine

variable {s t u : State} {e : Entry} {rest : List Entry}

/-! ## The platen's reckoning (R76, R77, R106) -/

theorem toInt_inRange (b : BitVec 32) : -2147483648 ≤ b.toInt ∧ b.toInt ≤ 2147483647 := by
  have low := BitVec.le_two_mul_toInt (x := b)
  have high := BitVec.two_mul_toInt_lt (x := b)
  omega

/-- The counter takes a value of its range, and one of the range as it is. -/
theorem counterValue_inRange (i : Int) :
    -2147483648 ≤ counterValue i ∧ counterValue i ≤ 2147483647 := by
  unfold counterValue
  split
  · assumption
  · exact toInt_inRange _

theorem platenTarget_striking {q : Sequencer} {v : Int} (kind : e.kind.striking = true)
    (voff : e.voff = some v) : q.platenTarget e = q.baseline + v ∧ e.platenUpdate = .keep := by
  unfold Sequencer.platenTarget Entry.platenUpdate
  cases is : e.kind <;> simp_all [EntryKind.striking]

/-! ## What the motions write -/

/-- The wheel as a rotation to a petal leaves it: one of no distance is complete at once (R96). -/
def State.turned (s : State) (p : Nat) : Wheel :=
  if s.wheel.angle = petalAngle p s.retained.wheelPhase ∧ s.wheel.move = none then s.wheel
  else { s.wheel with move := some (petalAngle p s.retained.wheelPhase) }

theorem startWheel_eq (p : Nat) (s : State) : s.startWheel p = { s with wheel := s.turned p } := by
  unfold State.startWheel State.turned
  by_cases there : s.wheel.angle = petalAngle p s.retained.wheelPhase ∧ s.wheel.move = none
  · rw [if_pos there, if_pos (by simpa using there)]
  · rw [if_neg there, if_neg (by simpa using there)]

/-- Moving the carrier and the wheel writes them, and a stall what a fault writes. -/
theorem moveAcross_eq (e : Entry) (s : State) : ∃ c w q h n o t, s.moveAcross e =
    { s with carrier := c, wheel := w, seq := q, hammer := h, notices := n, tone := o, text := t } ∧
    q.baseline = s.seq.baseline ∧ q.u = s.seq.u := by
  obtain ⟨w, turns⟩ : ∃ w, (if e.kind.striking then s.startWheel (e.petal.getD 0) else s) =
      { s with wheel := w } := by
    split
    · exact ⟨_, startWheel_eq _ s⟩
    · exact ⟨_, rfl⟩
  unfold State.moveAcross
  rw [turns]
  cases e.x with
  | none => exact ⟨_, _, _, _, _, _, _, rfl, rfl, rfl⟩
  | some x =>
    obtain ⟨c, b, starts⟩ : ∃ c b, ({ s with wheel := w } : State).startCarrier x =
        ({ s with wheel := w, carrier := c }, b) := by
      unfold State.startCarrier
      repeat' split
      all_goals exact ⟨_, _, rfl⟩
    simp only [starts]
    cases b with
    | false => exact ⟨_, _, _, _, _, _, _, rfl, rfl, rfl⟩
    | true =>
      obtain ⟨t, fault⟩ := takeFault_eq .carrierStall { s with wheel := w, carrier := c }
      simp only [if_true, fault]
      exact ⟨_, _, _, _, _, _, _, rfl, rfl, rfl⟩

/-- The carrier of a known position sets out for a place it does not stand at, the wheel with it. -/
theorem moveAcross_away {x : Nat} (known : s.carrier.known = true) (goal : e.x = some x)
    (away : s.carrier.pos ≠ x) : s.moveAcross e =
      { s with
        carrier := { s.carrier with move := .moving x }
        wheel := if e.kind.striking then s.turned (e.petal.getD 0) else s.wheel } := by
  unfold State.moveAcross
  by_cases striking : e.kind.striking = true
  · simp only [striking, if_true, goal, startWheel_eq]
    simp [State.startCarrier, known, away]
  · simp [striking, goal, State.startCarrier, known, away]

/-! ## Ends of motions (R76 to R78, R82) -/

theorem fireReport_seq (e : Entry) (s : State) : (s.fireReport e).seq = s.seq := by
  obtain ⟨l, report⟩ := fireReport_eq e s
  rw [report]

/-- What the end of POSITION keeps of the sequencer. -/
theorem positionEnd_reckons (e : Entry) (s : State) :
    (s.positionEnd e).seq.baseline = s.seq.baseline ∧ (s.positionEnd e).seq.u = s.seq.u := by
  unfold State.positionEnd
  split
  · split
    · unfold State.beginHeatWait State.tryFire
      repeat' split
      · unfold State.beginFire
        rw [fireReport_seq]
        exact ⟨rfl, rfl⟩
      all_goals exact ⟨rfl, rfl⟩
    · cases entries : s.strikes.entries with
      | nil =>
        have ends : s.completeHead = s.setStage none := by simp [State.completeHead, entries]
        rw [ends]
        exact ⟨rfl, rfl⟩
      | cons e rest =>
        obtain ⟨_, seq⟩ := completeHead_leaves entries
        rw [seq]
        exact ⟨rfl, rfl⟩
  · exact ⟨rfl, rfl⟩

theorem motionEnded_reckons (s : State) :
    s.motionEnded.seq.baseline = s.seq.baseline ∧ s.motionEnded.seq.u = s.seq.u := by
  have drained : s.drained.seq.baseline = s.seq.baseline ∧ s.drained.seq.u = s.seq.u := by
    unfold State.drained
    split <;> exact ⟨rfl, rfl⟩
  unfold State.motionEnded
  simp only
  split
  next e _ =>
    obtain ⟨baseline, offset⟩ := positionEnd_reckons e s.drained
    exact ⟨baseline.trans drained.1, offset.trans drained.2⟩
  next => exact drained

/-- The end of a platen motion writes no counter and no input. -/
theorem afterPlatenMove_eq (s : State) : ∃ k q h r l t d c w n o, s.afterPlatenMove =
    { s with
      strikes := k, seq := q, hammer := h, ribbon := r, line := l, text := t, display := d
      carrier := c, wheel := w, notices := n, tone := o } ∧
    q.baseline = s.seq.baseline ∧ q.u = s.seq.u := by
  have ends (v : State) : ∃ k q h r l t d, v.motionEnded =
      { v with
        strikes := k, seq := q, hammer := h, ribbon := r, line := l, text := t, display := d } ∧
      q.baseline = v.seq.baseline ∧ q.u = v.seq.u := by
    obtain ⟨k, q, h, r, l, t, d, ended⟩ := motionEnded_eq v
    have reckons := motionEnded_reckons v
    rw [ended] at reckons
    exact ⟨k, q, h, r, l, t, d, ended, reckons⟩
  unfold State.afterPlatenMove
  repeat' split
  · next e _ _ =>
    obtain ⟨c, w, q', h', n, o, t', moves, baseline, offset⟩ := moveAcross_eq e s
    rw [moves]
    obtain ⟨k, q, h, r, l, t, d, ended, reckons⟩ := ends { s with
      carrier := c, wheel := w, seq := q', hammer := h', notices := n, tone := o, text := t' }
    exact ⟨k, q, h, r, l, t, d, c, w, n, o, ended, reckons.1.trans baseline, reckons.2.trans offset⟩
  all_goals
    obtain ⟨k, q, h, r, l, t, d, ended, reckons⟩ := ends s
    exact ⟨k, q, h, r, l, t, d, _, _, _, _, ended, reckons⟩

theorem exec_rotation {a : Nat} (live : s.live = true) (move : s.wheel.move = some a) :
    exec .wheelRotationComplete s = .next ((({ s with
      wheel := { s.wheel with angle := a, move := none } } : State).motionEnded).conclude s) := by
  change execWheelRotationComplete s = _
  simp [execWheelRotationComplete, live, move]
theorem exec_platen {m : PlatenMove} (live : s.live = true) (move : s.platen.move = some m) :
    exec .platenMotionComplete s = .next ((s.platenArrived m).afterPlatenMove.conclude s) := by
  change execPlatenMotionComplete s = _
  simp [execPlatenMotionComplete, live, move]

/-! ## Beginning POSITION (R76) -/

theorem afterPlaten_eq (q : Sequencer) (y : Int) (k : PlatenUpdate) : ∃ b o,
    q.afterPlaten y k = { q with baseline := b, u := o } := by
  cases k <;> exact ⟨_, _, rfl⟩

/-- A drive that is in motion keeps an entry in POSITION. -/
theorem positionEnd_moving (moving : s.carrier.move ≠ .none ∨ s.platen.move ≠ none) :
    s.positionEnd e = s := by
  have waits : s.arrived e = false := by
    unfold State.arrived
    cases platen : s.platen.move <;> simp_all
  simp [State.positionEnd, waits]

theorem motionEnded_moving (draining : s.seq.draining = false) (moving : s.carrier.move ≠ .none) :
    s.motionEnded = s := by
  have drained : s.drained = s := by simp [State.drained, draining]
  unfold State.motionEnded
  simp only [drained]
  split
  · exact positionEnd_moving (.inl moving)
  · rfl

section Motions
variable {y : Int}

/-- The platen goes first: but for a RETURN the rest waits for it. -/
theorem beginMotions_platen (away : s.platen.counter ≠ y) (kind : e.kind ≠ .ret) :
    s.beginMotions e y =
      { s with platen := { s.platen with move := some ⟨y, e.platenUpdate⟩ } } := by
  have starts : s.startPlaten y e.platenUpdate =
      { s with platen := { s.platen with move := some ⟨y, e.platenUpdate⟩ } } := by
    simp [State.startPlaten, away]
  unfold State.beginMotions
  rw [starts]
  cases is : e.kind <;> simp_all

/-- The carrier of a RETURN goes with the platen. -/
theorem beginMotions_return (away : s.platen.counter ≠ y) (kind : e.kind = .ret) :
    s.beginMotions e y =
      ({ s with platen := { s.platen with move := some ⟨y, .ret⟩ } } : State).moveAcross e := by
  simp [State.beginMotions, State.startPlaten, away, kind, Entry.platenUpdate]

/-- A platen motion of no distance ends at once. -/
theorem beginMotions_across (there : s.platen.counter = y) (still : s.platen.move = none)
    (kind : e.kind ≠ .feed) : s.beginMotions e y =
      ({ s with seq := s.seq.afterPlaten y e.platenUpdate } : State).moveAcross e := by
  have starts : s.startPlaten y e.platenUpdate =
      { s with seq := s.seq.afterPlaten y e.platenUpdate } := by
    simp [State.startPlaten, there, still]
  unfold State.beginMotions
  rw [starts]
  cases is : e.kind <;> simp_all

/-- An entry not in flight begins POSITION with its target computed. -/
theorem beginPosition_eq (flight : s.seq.inFlight = none) : s.beginPosition e =
    ((({ s with seq := { s.seq with
      stage := some .position, inFlight := some ⟨s.seq.platenTarget e, false⟩ } } : State).beginMotions
        e (s.seq.platenTarget e)).positionEnd e) := by
  simp [State.beginPosition, flight]

end Motions

/-! ## The head entry taken up (R75, R86, R89, R90) -/

/-- The state in which the head entry is taken up. -/
def State.takenUp (s : State) : State := s.cleared.setMech .running

theorem takenUp_eq (causes : s.causesNow = []) : ∃ n d, s.takenUp =
    { s with
      seq := { s.seq with mech := .running, causes := [] }, notices := n, display := d } ∧
    n.rows.fault = s.notices.rows.fault ∧ n.rows.liftRefused = s.notices.rows.liftRefused ∧
    n.rows.halt = s.notices.rows.halt := by
  unfold State.takenUp State.cleared
  rw [← causes]
  split <;> exact ⟨_, _, rfl, rfl, rfl, rfl⟩

theorem beginHead_position (unfired : s.seq.inFlight = none)
    (lift : e.kind = .lift → e.wheelId = some s.wheel.id)
    (known : e.kind.striking = true → s.wheel.known = true) :
    s.beginHead e = s.beginPosition e := by
  unfold State.beginHead
  rw [unfired, if_neg (by simp), if_neg (by simpa using lift), if_neg (by simpa using known)]

/-- An entry kept fired goes on with ADVANCE. -/
theorem beginHead_fired {f : InFlight} (flight : s.seq.inFlight = some f) (fired : f.fired = true) :
    s.beginHead e = s.beginAdvance e := by
  simp [State.beginHead, flight, fired]

section Unfired
variable (unfired : ∀ f, s.seq.inFlight = some f → f.fired = false)
include unfired

theorem beginHead_unfired : s.beginHead e =
    if e.kind = .lift && e.wheelId != some s.wheel.id then
      if e.first then s.withdrawHeadLift e else s.holdLift
    else if e.kind.striking && !s.wheel.known then s.takeFault .wheelHome
    else s.beginPosition e := by
  unfold State.beginHead
  cases flight : s.seq.inFlight with
  | none => simp
  | some f => simp [unfired f flight]

theorem beginHead_otherWheel (lift : e.kind = .lift) (other : e.wheelId ≠ some s.wheel.id) :
    s.beginHead e = if e.first then s.withdrawHeadLift e else s.holdLift := by
  rw [beginHead_unfired unfired, if_pos (by simp [lift, other])]
theorem beginHead_unknownAngle (striking : e.kind.striking = true)
    (wheel : e.kind = .lift → e.wheelId = some s.wheel.id) (unknown : s.wheel.known = false) :
    s.beginHead e = s.takeFault .wheelHome := by
  rw [beginHead_unfired unfired, if_neg (by simpa using wheel), if_pos (by simp [striking, unknown])]

end Unfired

/-- No cause stands but those that the set would hold. -/
theorem causes_absent (causes : s.causesNow = []) (k : HaltCause) : s.causePresent k = false := by
  have absent : ¬ k ∈ s.causesNow := by simp [causes]
  simpa [mem_causesNow] using absent

/-- With the set empty a ribbon stands, and before a LIFT a tape. -/
theorem kinds_present (causes : s.causesNow = []) (head : s.strikes.entries = e :: rest) :
    s.ribbon.kind ≠ none ∧ (e.kind = .lift → s.ribbon.tape ≠ none) := by
  have ribbon := causes_absent causes .ribbonAbsent
  have tape := causes_absent causes .tapeAbsent
  simp only [State.causePresent, head] at ribbon tape
  refine ⟨fun none => by simp [none] at ribbon, fun lift none => by simp [none, lift] at tape⟩

/-- The group at the head, up to its last mark. -/
theorem headGroup_eq {group after : List Entry} {last : Entry} (inner : ∀ x ∈ group, x.last = false)
    (marked : last.last = true) : headGroup (group ++ last :: after) = group ++ [last] := by
  induction group with
  | nil => simp [headGroup, marked]
  | cons x group ih =>
    obtain ⟨notLast, others⟩ := List.forall_mem_cons.mp inner
    simp [headGroup, notLast, ih others]

/-- Taking out the ids of a front of a queue without repeats leaves the rest. -/
theorem filter_front {front after : List Entry}
    (distinct : ((front ++ after).map (·.id)).Nodup) :
    ((front ++ after).filter fun x => !(front.map (·.id)).contains x.id) = after := by
  rw [List.map_append, List.nodup_append] at distinct
  obtain ⟨_, _, apart⟩ := distinct
  rw [List.filter_append, List.filter_eq_nil_iff.mpr fun x member => ?_,
    List.filter_eq_self.mpr fun x member => ?_, List.nil_append]
  · have notIn : ¬ x.id ∈ front.map (·.id) := fun isIn =>
      apart x.id isIn x.id (List.mem_map_of_mem member) rfl
    simpa using notIn
  · simpa using ⟨x, member, rfl⟩

/-- A withdrawal of the head, with no stage begun. -/
theorem withdraw_head {p : Entry → Bool} (head : s.strikes.entries = e :: rest) (meets : p e = true)
    (stage : s.seq.stage = none) (draining : s.seq.draining = false) : ∃ h t, s.withdraw p =
    { s with
      strikes := { s.strikes with entries := s.strikes.entries.filter fun x => !p x }
      seq := { s.seq with inFlight := none, liftHeld := false }
      hammer := h, text := t } ∧ t.erase = s.text.erase := by
  have drops : (s.strikes.entries.head?.map p).getD false = true := by simp [head, meets]
  unfold State.withdraw
  simp only [drops, if_true, State.dropHead, stage, draining]
  exact ⟨_, _, rfl, rfl⟩

/-- The cell of a withdrawn LIFT group. -/
def restruck (cell : Option Nat) (d : Cell) : Cell :=
  if cell = some d.id then { d with state := .struck } else d

theorem liftWithdrawnCell_eq (cell : Option Nat) (s : State) : s.liftWithdrawnCell cell =
    { s with line := { s.line with cells := s.line.cells.map (restruck cell) } } := by
  cases cell with
  | none =>
    have same : s.line.cells.map (restruck none) = s.line.cells := List.map_id _
    rw [same]
    rfl
  | some id =>
    have cells : (s.line.cells.map fun d => if d.id = id then { d with state := .struck } else d) =
        s.line.cells.map (restruck (some id)) :=
      List.map_congr_left fun d _ => by simp [restruck, eq_comm]
    rw [← cells]
    rfl

/-- The LIFT group at the head, withdrawn by the Print Sequencer (R86). -/
theorem withdrawHeadLift_eq {group after : List Entry} {last : Entry}
    (head : s.strikes.entries = e :: rest) (is : s.strikes.entries = group ++ last :: after)
    (inner : ∀ x ∈ group, x.last = false) (marked : last.last = true)
    (distinct : (s.strikes.entries.map (·.id)).Nodup) (stage : s.seq.stage = none)
    (draining : s.seq.draining = false) : ∃ h t d, s.withdrawHeadLift e = { s with
      strikes := { s.strikes with entries := after }
      seq := { s.seq with inFlight := none, liftHeld := false }
      hammer := h, text := t, display := d
      line := { s.line with cells := s.line.cells.map (restruck e.cell) }
      notices := { s.notices with
        rows := s.notices.rows.setRow .liftRefused
          ((s.notices.rows.row .liftRefused).occur [0x00, s.withdrawnLiftCode e.cell]) } } ∧
      t.erase = s.text.erase := by
  have front : s.strikes.entries = (group ++ [last]) ++ after := by simp [is]
  let ids := (headGroup s.strikes.entries).map (·.id)
  have names : ids = (group ++ [last]).map (·.id) := by
    change (headGroup s.strikes.entries).map (·.id) = _
    rw [is, headGroup_eq inner marked]
  have inFront : e ∈ group ++ [last] := by
    rw [head] at front
    cases group <;> simp_all
  have meets : ids.contains e.id = true := by
    rw [names, List.contains_iff_mem]
    exact List.mem_map_of_mem inFront
  have left : (s.strikes.entries.filter fun x => !ids.contains x.id) = after := by
    rw [names, front]
    exact filter_front (by rw [← front]; exact distinct)
  obtain ⟨h, t, withdraws, erase⟩ :=
    withdraw_head (p := fun x => ids.contains x.id) head meets stage draining
  have result : s.withdrawHeadLift e = (((s.withdraw fun x => ids.contains x.id).liftWithdrawnCell
      e.cell).raiseLiftRefused .wheelChanged (s.withdrawnLiftCode e.cell)) := rfl
  rw [result, withdraws, left, liftWithdrawnCell_eq]
  exact ⟨h, t, _, rfl, erase⟩

/-! ## A second decision (R75) -/

/-- The Text Engine and the Spelling Unit have nothing to do where no erase and no run stands and no cell
has come, gone or changed its code. -/
theorem textSettle_quiet {before : Line} (erase : s.text.erase = none) (run : s.line.run = none)
    (seen : before.cells.map Cell.seen = s.line.cells.map Cell.seen) :
    ∃ t, s.textSettle before s.spell.endClosed = { s with text := t } := by
  have erased : ∃ t, s.eraseContinue = { s with text := t } := by
    unfold State.eraseContinue
    split
    · have stays : s.eraseLoop (2 * Config.cellPlaces) = s := by
        rw [show 2 * Config.cellPlaces = 319 + 1 from rfl, State.eraseLoop]
        simp [erase]
      rw [stays]
      exact ⟨_, rfl⟩
    · exact ⟨_, rfl⟩
  obtain ⟨t, erased⟩ := erased
  have spells : ({ s with text := t } : State).spellingStep before.cells s.spell.endClosed =
      { s with text := t } := by
    unfold State.spellingStep
    exact if_pos (by simp [seen])
  have idle : ({ s with text := t } : State).runStatus ≠ .ready := by simp [State.runStatus, run]
  unfold State.textSettle State.runExamine
  rw [erased, spells, runLoop_stays _ idle]
  exact ⟨_, rfl⟩

/-- What a decision frees is taken up by the Text Engine, and the next decision follows. -/
theorem sequence_again (undecided : s.decideState.undecided = true)
    (next : (s.decideState.textSettle s.line s.spell.endClosed).decideState.undecided = false) :
    s.sequence = (s.decideState.textSettle s.line s.spell.endClosed).sequence := by
  rw [sequence_of_decided next]
  unfold State.sequence
  rw [State.seqLoop]
  simp only [undecided, if_true]
  rw [State.seqLoop]
  simp [next]

/-! ## Arrivals, and the head entry's motions (R75 to R77) -/

/-- A rotation ends at its target, a platen motion at its target or in the counter's range. -/
theorem motions_reckon (live : s.live = true) :
    (∀ a, s.wheel.move = some a →
      ∃ u : State, exec .wheelRotationComplete s = .next (u.conclude s) ∧
        u.wheel = { s.wheel with angle := a, move := none } ∧ u.carrier = s.carrier ∧
        u.platen = s.platen ∧ u.keys = s.keys ∧ s.sameSettings u ∧ u.inputs = s.inputs) ∧
    (∀ m, s.platen.move = some m →
      ∃ u : State, exec .platenMotionComplete s = .next (u.conclude s) ∧
        u.platen.move = none ∧
        (-2147483648 ≤ m.target → m.target ≤ 2147483647 → u.platen.counter = m.target) ∧
        -2147483648 ≤ u.platen.counter ∧ u.platen.counter ≤ 2147483647 ∧
        u.seq.baseline = (s.seq.afterPlaten m.target m.update).baseline ∧
        u.seq.u = (s.seq.afterPlaten m.target m.update).u ∧
        u.keys = s.keys ∧ s.sameSettings u ∧ u.inputs = s.inputs) := by
  refine ⟨fun a move => ?_, fun m move => ?_⟩
  · obtain ⟨k, q, h, r, l, t, d, ended⟩ := motionEnded_eq { s with
      wheel := { s.wheel with angle := a, move := none } }
    refine ⟨_, exec_rotation live move, ?_⟩
    rw [ended]
    exact ⟨rfl, rfl, rfl, rfl, ⟨rfl, rfl⟩, rfl⟩
  · obtain ⟨k, q, h, r, l, t, d, c, w, n, o, ended, baseline, offset⟩ :=
      afterPlatenMove_eq (s.platenArrived m)
    obtain ⟨low, high⟩ := counterValue_inRange m.target
    refine ⟨_, exec_platen live move, ?_⟩
    rw [ended]
    exact ⟨rfl, fun above below => if_pos ⟨above, below⟩, low, high, baseline, offset, rfl,
      ⟨rfl, rfl⟩, rfl⟩

/-- Where each kind's platen target lies, and what its arrival leaves of the reckoning. -/
theorem targets_reckon (q : Sequencer) (e : Entry) :
    let x := q.platenTarget e
    let r := q.afterPlaten x e.platenUpdate
    (∀ v, e.kind.striking = true → e.voff = some v → x = q.baseline + v ∧ r = q) ∧
    (e.kind = .move → x = q.baseline + q.u ∧ r = q) ∧
    (∀ d o, e.kind = .feed → e.feed = some d → e.offsetAfter = some o →
      x = q.baseline + q.u + d ∧ r = { q with baseline := x - o, u := o }) ∧
    (∀ d, e.kind = .ret → e.feed = some d →
      x = q.baseline + q.u + d ∧ r = { q with baseline := x, u := 0 }) := by
  refine ⟨fun v striking voff => ?_, fun kind => ?_, fun d o kind feed after => ?_,
    fun d kind feed => ?_⟩
  · obtain ⟨target, update⟩ := platenTarget_striking (q := q) striking voff
    exact ⟨target, by rw [update]; rfl⟩
  · simp [Sequencer.platenTarget, Entry.platenUpdate, kind, Sequencer.afterPlaten]
  · simp [Sequencer.platenTarget, Entry.platenUpdate, kind, feed, after, Sequencer.afterPlaten]
  · simp [Sequencer.platenTarget, Entry.platenUpdate, kind, feed, Sequencer.afterPlaten]

section TakenUp
variable (boundary : s.atBoundary = true) (causes : s.causesNow = []) (pause : s.seq.pause = false)
  (head : s.strikes.entries = e :: rest)
include boundary causes pause head

/-- The motions of the head entry, as its POSITION begins them. -/
theorem head_positions (flight : s.seq.inFlight = none)
    (lift : e.kind = .lift → e.wheelId = some s.wheel.id)
    (angle : e.kind.striking = true → s.wheel.known = true) :
    ∃ v : State, s.takenUp.beginHead e = (v.beginMotions e (s.seq.platenTarget e)).positionEnd e ∧
      v.carrier = s.carrier ∧ v.platen = s.platen ∧ v.wheel = s.wheel ∧ v.strikes = s.strikes ∧
      v.line = s.line ∧ v.retained = s.retained ∧ v.seq.mech = .running ∧
      v.seq.stage = some .position ∧ v.seq.inFlight = some ⟨s.seq.platenTarget e, false⟩ ∧
      (∀ w : State, s.takenUp.beginHead e = w → w.seq.stage = some .position → s.sequence = w) := by
  obtain ⟨n, d, up, _, _, _⟩ := takenUp_eq causes
  have begins := beginHead_position (s := s.takenUp) (e := e) (by rw [up]; exact flight)
    (by rw [up]; exact lift) (by rw [up]; exact angle)
  have position := beginPosition_eq (s := s.takenUp) (e := e) (by rw [up]; exact flight)
  have decides (w : State) (is : s.takenUp.beginHead e = w) (stage : w.seq.stage = some .position) :
      s.sequence = w := by
    rw [← is]
    exact sequence_begins boundary causes pause head (by
      change (s.takenUp.beginHead e).undecided = false
      simp [is, State.undecided, stage])
  rw [begins, position] at decides ⊢
  rw [up] at decides ⊢
  exact ⟨_, rfl, rfl, rfl, rfl, rfl, rfl, rfl, rfl, rfl, rfl, decides⟩

/-- The head entry begins its motions: the platen first, a RETURN's carrier with it. -/
theorem head_begins (flight : s.seq.inFlight = none)
    (lift : e.kind = .lift → e.wheelId = some s.wheel.id)
    (angle : e.kind.striking = true → s.wheel.known = true) (known : s.carrier.known = true)
    (wheelRests : s.wheel.move = none) (platenRests : s.platen.move = none) :
    let y := s.seq.platenTarget e
    let angle := ((16 * (e.petal.getD 0 : Int) + s.retained.wheelPhase) % 1536).toNat
    let t := s.sequence
    let begun := t.seq.mech = .running ∧ t.seq.stage = some .position ∧
      t.seq.inFlight = some ⟨y, false⟩ ∧ t.strikes = s.strikes ∧ t.line = s.line
    (s.platen.counter ≠ y → e.kind ≠ .ret → begun ∧ t.carrier = s.carrier ∧
      t.platen.move = some ⟨y, e.platenUpdate⟩ ∧ t.wheel = s.wheel) ∧
    (∀ p, s.platen.counter ≠ y → e.kind = .ret → e.x = some p → s.carrier.pos ≠ p →
      begun ∧ t.carrier.move = .moving p ∧ t.platen.move = some ⟨y, .ret⟩) ∧
    (∀ p, s.platen.counter = y → e.kind ≠ .feed → e.x = some p → s.carrier.pos ≠ p →
      begun ∧ t.carrier.move = .moving p ∧ t.platen.move = none ∧
      t.wheel.move = if e.kind.striking = true ∧ s.wheel.angle ≠ angle then some angle else none) := by
  intro y phase t begun
  obtain ⟨v, is, carrier, platen, wheel, strikes, line, retained, mech, stage, flies, decides⟩ :=
    head_positions boundary causes pause head flight lift angle
  refine ⟨fun away kind => ?_, fun p away kind goal off => ?_, fun p there kind goal off => ?_⟩
  · have starts := beginMotions_platen (s := v) (by rw [platen]; exact away) kind
    rw [starts, positionEnd_moving (.inr (by simp))] at is
    have result : t = _ := decides _ is stage
    change (_ ∧ _) ∧ _
    rw [result]
    exact ⟨⟨mech, stage, flies, strikes, line⟩, carrier, rfl, wheel⟩
  · have starts := beginMotions_return (s := v) (by rw [platen]; exact away) kind
    rw [starts, moveAcross_away (by rw [← carrier] at known; exact known) goal
      (by rw [← carrier] at off; exact off), positionEnd_moving (.inl (by simp))] at is
    have result : t = _ := decides _ is stage
    change (_ ∧ _) ∧ _
    rw [result]
    exact ⟨⟨mech, stage, flies, strikes, line⟩, rfl, rfl⟩
  · obtain ⟨b, o, after⟩ := afterPlaten_eq v.seq y e.platenUpdate
    have starts := beginMotions_across (s := v) (y := y) (by rw [platen]; exact there)
      (by rw [platen]; exact platenRests) kind
    rw [starts, after, moveAcross_away (by rw [← carrier] at known; exact known) goal
      (by rw [← carrier] at off; exact off), positionEnd_moving (.inl (by simp))] at is
    have result : t = _ := decides _ is stage
    have turn : (if e.kind.striking = true then v.turned (e.petal.getD 0) else v.wheel).move =
        if e.kind.striking = true ∧ s.wheel.angle ≠ phase then some phase else none := by
      have angleIs : petalAngle (e.petal.getD 0) v.retained.wheelPhase = phase := by
        rw [retained]
        rfl
      unfold State.turned
      rw [angleIs, wheel]
      by_cases striking : e.kind.striking = true <;> by_cases same : s.wheel.angle = phase <;>
        simp [striking, same, wheelRests]
    change (_ ∧ _) ∧ _
    rw [result]
    exact ⟨⟨mech, stage, flies, strikes, line⟩, rfl, by rw [platen]; exact platenRests, turn⟩

end TakenUp

/-! ## The end of POSITION (R76, R78, R82) -/

/-- What the end of an entry's last motion does. -/
def State.Ended (s : State) (e : Entry) (rest : List Entry) (n : Nat) (u : State) : Prop :=
  u.keys = s.keys ∧ s.sameSettings u ∧
    if e.kind.striking = true then u.strikes = s.strikes ∧
      if s.hammer.heat + n ≤ 600 ∧ s.inputs.hammerHome.qualified = true
        then u.seq.stage = some .fire ∧ u.hammer = ⟨s.hammer.heat + n, true, none, some n⟩
        else u.seq.stage = some .heatWait ∧ u.line = s.line ∧
          u.hammer = { s.hammer with request := some n }
    else u.strikes.entries = rest ∧ u.seq.stage = none ∧ u.seq.inFlight = none ∧
      u.hammer = s.hammer ∧ (e.cell = none → u.line = s.line)

/-- The pulse of a striking entry fires at once or waits by the heat rule. -/
theorem beginHeatWait_ends {energy : Nat} (entry : s.entry = some e) (is : e.energy = some energy) :
    let u := s.beginHeatWait e
    u.keys = s.keys ∧ s.sameSettings u ∧ u.strikes = s.strikes ∧
      if s.hammer.heat + (5 + energy) ≤ 600 ∧ s.inputs.hammerHome.qualified = true
        then u.seq.stage = some .fire ∧
          u.hammer = ⟨s.hammer.heat + (5 + energy), true, none, some (5 + energy)⟩
        else u.seq.stage = some .heatWait ∧ u.line = s.line ∧
          u.hammer = { s.hammer with request := some (5 + energy) } := by
  let v : State := { s with
    seq := { s.seq with stage := some .heatWait }
    hammer := { s.hammer with request := some (5 + energy) } }
  have begins : s.beginHeatWait e = v.tryFire := by
    unfold State.beginHeatWait
    rw [is]
    rfl
  simp only [begins]
  split
  next room =>
    obtain ⟨l, fires⟩ := beginFire_leaves e (5 + energy) v
    rw [tryFire_granted (s := v) rfl entry rfl room.1 room.2, fires]
    exact ⟨rfl, ⟨rfl, rfl⟩, rfl, rfl, rfl⟩
  next full =>
    rw [tryFire_waits (s := v) rfl full]
    exact ⟨rfl, ⟨rfl, rfl⟩, rfl, rfl, rfl, rfl⟩

theorem completeHead_ends (head : s.strikes.entries = e :: rest) :
    let u := s.completeHead
    u.keys = s.keys ∧ s.sameSettings u ∧ u.strikes.entries = rest ∧ u.seq.stage = none ∧
      u.seq.inFlight = none ∧ u.hammer = s.hammer ∧ (e.cell = none → u.line = s.line) := by
  obtain ⟨entries, seq⟩ := completeHead_leaves head
  have line (none : e.cell = none) : s.completeHead.line = s.line := by
    rw [completeHead_cons head, completionReport_silent (.inl none)]
    rfl
  obtain ⟨k, q, l, t, d, completed⟩ := completeHead_eq s
  refine ⟨by rw [completed], ?_, entries, by rw [seq], by rw [seq], by rw [completed], line⟩
  rw [completed]
  exact ⟨rfl, rfl⟩

theorem motionEnded_ends {energy : Nat} (head : s.strikes.entries = e :: rest)
    (stage : s.seq.stage = some .position) (test : s.seq.testStrike = none)
    (draining : s.seq.draining = false) (arrived : s.arrived e = true)
    (is : e.kind.striking = true → e.energy = some energy) :
    s.Ended e rest (5 + energy) s.motionEnded := by
  have entry : s.entry = some e := by simp [State.entry, test, head]
  have drained : s.drained = s := by simp [State.drained, draining]
  have ends : s.motionEnded = if e.kind.striking then s.beginHeatWait e else s.completeHead := by
    simp [State.motionEnded, drained, entry, State.positionEnd, stage, arrived]
  unfold State.Ended
  rw [ends]
  by_cases striking : e.kind.striking = true
  · simp only [if_pos striking]
    exact beginHeatWait_ends entry (is striking)
  · simp only [if_neg striking]
    exact completeHead_ends head

/-- The ends of an entry's last motion, and the platen's arrival before the carrier's move. -/
theorem entry_ends {energy : Nat} (live : s.live = true) (head : s.strikes.entries = e :: rest)
    (stage : s.seq.stage = some .position) (test : s.seq.testStrike = none)
    (draining : s.seq.draining = false) (leaving : s.seq.leaving = false)
    (known : s.carrier.known = true) (is : e.kind.striking = true → e.energy = some energy) :
    let ends (c : Instr) := ∃ u : State, exec c s = .next (u.conclude s) ∧
      s.Ended e rest (5 + energy) u
    (∀ x marks, s.carrier.move = .moving x → s.platen.move = none →
      (e.kind.striking = true → s.wheel.move = none) →
      let count := min 1600 (s.carrier.marks + marks)
      let expected := (x / 6 - s.carrier.pos / 6) + (s.carrier.pos / 6 - x / 6)
      expected ≤ count + 1 → count ≤ expected + 1 → ends (.carrierMoveComplete marks)) ∧
    (∀ a, s.wheel.move = some a → e.kind.striking = true → s.carrier.move = .none →
      s.platen.move = none → ends .wheelRotationComplete) ∧
    (∀ m, s.platen.move = some m → s.carrier.move = .none → e.kind = .feed ∨ e.kind = .ret →
      ends .platenMotionComplete) ∧
    (∀ m p, s.platen.move = some m → s.carrier.move = .none → e.kind ≠ .feed → e.kind ≠ .ret →
      e.x = some p → s.carrier.pos ≠ p →
      ∃ u : State, exec .platenMotionComplete s = .next (u.conclude s) ∧
        u.seq.stage = some .position ∧ u.carrier.move = .moving p ∧ u.strikes = s.strikes ∧
        u.line = s.line) := by
  have entry : s.entry = some e := by simp [State.entry, test, head]
  refine ⟨fun x marks move platen wheel low high => ?_,
    fun a move striking carrier platen => ?_, fun m move carrier kind => ?_,
    fun m p move carrier notFeed notReturn goal away => ?_⟩
  · let v : State := { s with carrier := ⟨x, s.carrier.known, 0, .none⟩ }
    have run := exec_move_good live move ⟨low, high⟩
    have ended : v.moveEnded = v.motionEnded := by simp [State.moveEnded, v, leaving]
    have arrived : v.arrived e = true := by
      unfold State.arrived
      by_cases striking : e.kind.striking = true <;> simp [v, known, platen, striking, wheel]
    rw [show ({ s with carrier := ⟨x, s.carrier.known, 0, .none⟩ } : State) = v from rfl,
      ended] at run
    exact ⟨_, run, motionEnded_ends (s := v) head stage test draining arrived is⟩
  · let v : State := { s with wheel := { s.wheel with angle := a, move := none } }
    have arrived : v.arrived e = true := by
      simp [State.arrived, v, known, platen, carrier]
    exact ⟨_, exec_rotation live move, motionEnded_ends (s := v) head stage test draining arrived is⟩
  · obtain ⟨b, o, after⟩ := afterPlaten_eq s.seq m.target m.update
    have run := exec_platen live move
    have ends : (s.platenArrived m).afterPlatenMove = (s.platenArrived m).motionEnded := by
      unfold State.afterPlatenMove
      split
      next f entryIs =>
        obtain rfl : e = f := Option.some.inj (entry.symm.trans (by
          simpa [State.platenArrived, State.entry, after] using entryIs))
        rw [if_neg (by rcases kind with is | is <;> simp [is])]
      next => rfl
    have notStriking : e.kind.striking = false := by
      rcases kind with is | is <;> simp [is, EntryKind.striking]
    rw [ends] at run
    unfold State.platenArrived at run
    rw [after] at run
    refine ⟨_, run, motionEnded_ends head stage test draining ?_ is⟩
    simp [State.arrived, known, carrier, notStriking]
  · obtain ⟨b, o, after⟩ := afterPlaten_eq s.seq m.target m.update
    have run := exec_platen live move
    let v : State := s.platenArrived m
    have arrivedIs : v = { s with
        platen := { counter := counterValue m.target, move := none }
        seq := { s.seq with baseline := b, u := o } } := by
      rw [← after]
      rfl
    have entryIs : v.entry = some e := by rw [arrivedIs]; exact entry
    have stageIs : v.seq.stage = some .position := by rw [arrivedIs]; exact stage
    have across : v.afterPlatenMove = (v.moveAcross e).motionEnded := by
      unfold State.afterPlatenMove
      rw [entryIs]
      exact if_pos (by simp [stageIs, notReturn, notFeed])
    have moves := moveAcross_away (s := v) (e := e) (by rw [arrivedIs]; exact known) goal
      (by rw [arrivedIs]; exact away)
    have still : v.seq.draining = false := by rw [arrivedIs]; exact draining
    rw [show s.platenArrived m = v from rfl, across, moves,
      motionEnded_moving (by exact still) (by simp)] at run
    refine ⟨_, run, ?_⟩
    rw [arrivedIs]
    exact ⟨stage, rfl, rfl, rfl⟩

/-! ## The head entry that does not begin POSITION (R86, R89, R90) -/

/-- The drives, the keys and the settings stand. -/
def State.Stands (s t : State) : Prop :=
  t.carrier = s.carrier ∧ t.wheel = s.wheel ∧ t.platen = s.platen ∧ t.keys = s.keys ∧ s.sameSettings t

section Taken
variable (boundary : s.atBoundary = true) (causes : s.causesNow = []) (pause : s.seq.pause = false)
  (head : s.strikes.entries = e :: rest)
include boundary causes pause head

/-- The decision that takes the head entry up. -/
theorem decideState_head : s.decideState = s.takenUp.beginHead e := by
  simp [State.decideState, boundary, causes, State.decideClear, State.takenUp, State.cleared, pause,
    head]

/-- An entry kept fired begins ADVANCE. -/
theorem head_advances {f : InFlight} {w : Nat} (flight : s.seq.inFlight = some f)
    (fired : f.fired = true) (width : e.width = some w) (wide : 1 ≤ w) :
    let steps := if e.kind = .lift then 6 else match s.ribbon.kind with
      | some .fabric => 1 | some .film => max 4 w | _ => (w + 2) / 3
    let t := s.sequence
    s.Stands t ∧ t.strikes = s.strikes ∧ t.line = s.line ∧ t.hammer = s.hammer ∧
      t.seq = { s.seq with mech := .running, causes := [], stage := some .advance } ∧
      t.ribbon = { s.ribbon with advance := steps } := by
  intro steps t
  obtain ⟨ribbon, tape⟩ := kinds_present causes head
  have stepsIs : advanceSteps e s.ribbon.kind s.ribbon.tape = steps := by
    change advanceSteps e s.ribbon.kind s.ribbon.tape = if e.kind = .lift then 6 else _
    unfold advanceSteps
    rw [width]
    split
    next lift => rw [if_pos (Option.isSome_iff_ne_none.mpr (tape lift))]; rfl
    next =>
      cases kind : s.ribbon.kind with
      | none => exact absurd kind ribbon
      | some k => cases k <;> rfl
  have moves : steps ≠ 0 := by
    change (if e.kind = .lift then 6 else _) ≠ 0
    split
    · decide
    · split <;> omega
  obtain ⟨n, d, up, _, _, _⟩ := takenUp_eq causes
  have advances : s.takenUp.beginHead e = { s.takenUp with
      seq := { s.takenUp.seq with stage := some .advance }
      ribbon := { s.takenUp.ribbon with advance := steps } } := by
    rw [beginHead_fired (f := f) (by rw [up]; exact flight) fired]
    unfold State.beginAdvance
    rw [show advanceSteps e s.takenUp.ribbon.kind s.takenUp.ribbon.tape = steps by
      rw [up]; exact stepsIs]
    exact if_neg moves
  have result : t = _ := (sequence_begins boundary causes pause head
    (by change (s.takenUp.beginHead e).undecided = false; simp [advances, State.undecided])).trans
      advances
  rw [up] at result
  rw [result]
  exact ⟨⟨rfl, rfl, rfl, rfl, rfl, rfl⟩, rfl, rfl, rfl, rfl, rfl⟩

/-- A striking entry with the angle not known takes WHEEL_HOME. -/
theorem head_unknownAngle (unfired : ∀ f, s.seq.inFlight = some f → f.fired = false)
    (stage : s.seq.stage = none) (draining : s.seq.draining = false)
    (test : s.seq.testStrike = none) (striking : e.kind.striking = true)
    (wheel : e.kind = .lift → e.wheelId = some s.wheel.id) (unknown : s.wheel.known = false) :
    let t := s.sequence
    s.Stands t ∧ t.strikes = s.strikes ∧ t.line = s.line ∧
      t.seq = { s.seq with
        mech := .fault, fault := some .wheelHome, causes := [], recovering := false,
        testPos := none, leaving := false } ∧
      t.notices.rows.fault = s.notices.rows.fault.occur [0x03] ∧
      t.tone = s.tone.request s.settings.volume .alarm true := by
  intro t
  obtain ⟨n, d, up, fault, _, _⟩ := takenUp_eq causes
  have faults := beginHead_unknownAngle (s := s.takenUp) (e := e) (by rw [up]; exact unfired)
    striking (by rw [up]; exact wheel) (by rw [up]; exact unknown)
  obtain ⟨x, takes⟩ := takeFault_eq .wheelHome s.takenUp
  rw [takes] at faults
  have result : t = _ := (sequence_begins boundary causes pause head
    (by change (s.takenUp.beginHead e).undecided = false; simp [faults, State.undecided])).trans faults
  rw [up] at result
  rw [result]
  refine ⟨⟨rfl, rfl, rfl, rfl, rfl, rfl⟩, rfl, rfl, ?_, ?_, rfl⟩
  · simp [stage, draining, test]
  · change n.rows.fault.occur _ = _
    rw [fault]
    rfl

/-- A LIFT of another wheel, as its group's first entry, is withdrawn with its group. -/
theorem head_withdraws (unfired : ∀ f, s.seq.inFlight = some f → f.fired = false)
    (stage : s.seq.stage = none) (draining : s.seq.draining = false) (lift : e.kind = .lift)
    (other : e.wheelId ≠ some s.wheel.id) (first : e.first = true) {group after : List Entry}
    {last : Entry} (is : s.strikes.entries = group ++ last :: after)
    (inner : ∀ x ∈ group, x.last = false) (marked : last.last = true)
    (distinct : (s.strikes.entries.map (·.id)).Nodup) :
    ∃ h t d n, s.decideState = { s with
      strikes := { s.strikes with entries := after }
      seq := { s.seq with mech := .running, causes := [], inFlight := none, liftHeld := false }
      hammer := h, text := t, display := d, notices := n
      line := { s.line with cells := s.line.cells.map (restruck e.cell) } } ∧
      n.rows.liftRefused =
        s.notices.rows.liftRefused.occur [0x00, s.withdrawnLiftCode e.cell] ∧
      t.erase = s.text.erase := by
  obtain ⟨n, d, up, _, refused, _⟩ := takenUp_eq causes
  have begins := beginHead_otherWheel (s := s.takenUp) (e := e) (by rw [up]; exact unfired) lift
    (by rw [up]; exact other)
  rw [if_pos first] at begins
  have decides := (decideState_head boundary causes pause head).trans begins
  obtain ⟨h, t, d', withdraws, erase⟩ := withdrawHeadLift_eq (s := s.takenUp) (by rw [up]; exact head)
    (by rw [up]; exact is) inner marked (by rw [up]; exact distinct) (by rw [up]; exact stage)
    (by rw [up]; exact draining)
  have code : s.takenUp.withdrawnLiftCode e.cell = s.withdrawnLiftCode e.cell := by
    rw [up]
    rfl
  rw [withdraws, code, up] at decides
  refine ⟨h, t, d', _, decides, ?_, ?_⟩
  · change n.rows.liftRefused.occur _ = _
    rw [refused]
  · rw [erase, up]

/-- A later LIFT of another wheel is held at the head. -/
theorem head_held (unfired : ∀ f, s.seq.inFlight = some f → f.fired = false)
    (lift : e.kind = .lift) (other : e.wheelId ≠ some s.wheel.id) (first : e.first = false) :
    ∃ n d, s.decideState = { s with
      seq := { s.seq with mech := .running, causes := [], liftHeld := true }
      notices := n, display := d } ∧ n.rows.halt = s.notices.rows.halt := by
  obtain ⟨n, d, up, _, _, halt⟩ := takenUp_eq causes
  have begins := beginHead_otherWheel (s := s.takenUp) (e := e) (by rw [up]; exact unfired) lift
    (by rw [up]; exact other)
  rw [if_neg (by simp [first])] at begins
  have decides := (decideState_head boundary causes pause head).trans begins
  rw [up] at decides
  exact ⟨n, d, decides, halt⟩

end Taken

theorem decideState_idles (boundary : s.atBoundary = true) (causes : s.causesNow = [])
    (pause : s.seq.pause = false) (empty : s.strikes.entries = []) :
    s.decideState = s.cleared.setMech .idle := by
  simp [State.decideState, boundary, causes, State.decideClear, State.cleared, pause, empty]
theorem decideState_halts (boundary : s.atBoundary = true) (causes : s.causesNow ≠ []) :
    s.decideState.seq.mech = .halted := by
  have halts : s.decideState = s.toHalted := by simp [State.decideState, boundary, causes]
  rw [halts]
  unfold State.toHalted
  simp only
  split <;> simp [State.setMech]

/-- No cause is left after the head's group has been withdrawn and the queue is empty. -/
theorem causes_afterWithdrawal (causes : s.causesNow = []) (inputs : t.inputs = s.inputs)
    (ribbon : t.ribbon = s.ribbon) (wheel : t.wheel = s.wheel) (held : t.seq.liftHeld = false)
    (empty : t.strikes.entries = []) : t.causesNow = [] := by
  refine List.filter_eq_nil_iff.mpr fun k _ => ?_
  have absent := causes_absent causes k
  cases k <;> simp_all [State.causePresent, Option.isSome_iff_ne_none]

/-- With the head held its cause alone stands. -/
theorem causes_held (causes : s.causesNow = []) (inputs : t.inputs = s.inputs)
    (ribbon : t.ribbon = s.ribbon) (held : t.seq.liftHeld = true) (queue : t.strikes = s.strikes) :
    t.causesNow = [.noWheel] := by
  have alone : t.causePresent = fun k => decide (k = .noWheel) := by
    funext k
    have absent := causes_absent causes k
    cases k <;> simp_all [State.causePresent]
  unfold State.causesNow
  rw [alone]
  rfl

section Second
variable (boundary : s.atBoundary = true) (causes : s.causesNow = []) (pause : s.seq.pause = false)
  (head : s.strikes.entries = e :: rest) (stage : s.seq.stage = none)
  (draining : s.seq.draining = false) (unfired : ∀ f, s.seq.inFlight = some f → f.fired = false)
  (lift : e.kind = .lift) (other : e.wheelId ≠ some s.wheel.id)
include boundary causes pause head stage draining unfired lift other

/-- A LIFT withdrawn from a queue of its group alone leaves the part IDLE. -/
theorem withdrawn_idles (first : e.first = true) {group : List Entry} {last : Entry}
    (is : s.strikes.entries = group ++ [last]) (inner : ∀ x ∈ group, x.last = false)
    (marked : last.last = true) (distinct : (s.strikes.entries.map (·.id)).Nodup)
    (erase : s.text.erase = none) (run : s.line.run = none) :
    s.Stands s.sequence ∧ s.sequence.seq.mech = .idle ∧ s.sequence.strikes.entries = [] := by
  obtain ⟨h, t, d, n, decides, _, erased⟩ := head_withdraws boundary causes pause head unfired stage
    draining lift other first is inner marked distinct
  have seen : s.line.cells.map Cell.seen = (s.line.cells.map (restruck e.cell)).map Cell.seen := by
    rw [List.map_map]
    refine List.map_congr_left fun c _ => ?_
    simp only [Function.comp_apply, restruck]
    split <;> rfl
  obtain ⟨t', settles⟩ := textSettle_quiet (s := s.decideState) (before := s.line)
    (by rw [decides]; exact erased.trans erase) (by rw [decides]; exact run)
    (by rw [decides]; exact seen)
  rw [show s.decideState.spell.endClosed = s.spell.endClosed by rw [decides]] at settles
  have undecided : s.decideState.undecided = true := by
    rw [decides]
    simp [State.undecided, stage, draining]
  let v : State := { s.decideState with text := t' }
  have atRest : v.atBoundary = true := by
    simp only [v, decides]
    exact atBoundary_iff.mpr (.inr (.inr (.inr ⟨rfl, stage, draining⟩)))
  have clear : v.causesNow = [] := by
    refine causes_afterWithdrawal causes ?_ ?_ ?_ ?_ ?_ <;> simp only [v, decides]
  have goes : v.seq.pause = false := by simp only [v, decides]; exact pause
  have empty : v.strikes.entries = [] := by simp only [v, decides]
  have again := sequence_again undecided (by
    rw [settles]
    change v.decideState.undecided = false
    rw [decideState_idles atRest clear goes empty]
    exact undecided_of_mech (by simp [State.setMech]))
  rw [settles] at again
  obtain ⟨⟨strikes, _, keys, _, carrier, wheel, platen, settings⟩, seq, _⟩ :=
    decision_rests atRest clear (.inr empty)
  rw [again]
  change s.Stands v.sequence ∧ _
  refine ⟨⟨carrier.trans ?_, wheel.trans ?_, platen.trans ?_, keys.trans ?_, settings.1.trans ?_,
    settings.2.trans ?_⟩, ?_, ?_⟩
  iterate 6 simp only [v, decides]
  · change v.sequence.seq.mech = .idle
    rw [seq]
    simp [goes]
  · change v.sequence.strikes.entries = []
    rw [strikes]
    exact empty

/-- A LIFT held at the head leaves the part HALTED with NO_WHEEL. -/
theorem held_halts (first : e.first = false) (erase : s.text.erase = none)
    (run : s.line.run = none) :
    let t := s.sequence
    s.Stands t ∧ t.strikes = s.strikes ∧ t.line = s.line ∧
      t.seq = { s.seq with mech := .halted, causes := [.noWheel], liftHeld := true } ∧
      t.notices.rows.halt = s.notices.rows.halt.occur [0x10] := by
  obtain ⟨n, d, decides, halt⟩ := head_held boundary causes pause head unfired lift other first
  obtain ⟨t', settles⟩ := textSettle_quiet (s := s.decideState) (before := s.line)
    (by rw [decides]; exact erase) (by rw [decides]; exact run) (by rw [decides])
  rw [show s.decideState.spell.endClosed = s.spell.endClosed by rw [decides]] at settles
  have undecided : s.decideState.undecided = true := by
    rw [decides]
    simp [State.undecided, stage, draining]
  let v : State := { s.decideState with text := t' }
  have atRest : v.atBoundary = true := by
    simp only [v, decides]
    exact atBoundary_iff.mpr (.inr (.inr (.inr ⟨rfl, stage, draining⟩)))
  have alone : v.causesNow = [.noWheel] := by
    refine causes_held causes ?_ ?_ ?_ ?_ <;> simp only [v, decides]
  have present : v.causesNow ≠ [] := by simp [alone]
  have again := sequence_again undecided (by
    rw [settles]
    exact undecided_of_mech (by
      change v.decideState.seq.mech ≠ .running
      simp [decideState_halts atRest present]))
  rw [settles] at again
  obtain ⟨⟨strikes, line, keys, _, carrier, wheel, platen, settings⟩, seq, notice⟩ :=
    decision_halts atRest present
  intro t
  rw [show t = v.sequence from again]
  refine ⟨⟨carrier.trans ?_, wheel.trans ?_, platen.trans ?_, keys.trans ?_, settings.1.trans ?_,
    settings.2.trans ?_⟩, strikes.trans ?_, line.trans ?_, seq.trans ?_, notice.trans ?_⟩
  iterate 8 simp only [v, decides]
  · rw [alone]
    simp only [v, decides]
  · rw [alone, if_pos (.inl (by simp only [v, decides]; simp))]
    simp only [v, decides]
    rw [halt]
    rfl

end Second

/-- Settles O37: the arrivals and the targets, the head entry's motions and their ends, and the head that does
not begin POSITION. -/
theorem rotationAndPlatenReckoning : Obligations.RotationAndPlatenReckoning := by
  refine ⟨fun s live => motions_reckon live, fun q e => targets_reckon q e, ?_, ?_, ?_⟩
  · intro s e rest boundary causes pause head flight lift angle known _ wheel platen
    exact head_begins boundary causes pause head flight lift angle known wheel platen
  · intro s e rest energy live head stage test draining leaving known is
    exact entry_ends live head stage test draining leaving known is
  · intro s e rest boundary causes pause head stage draining test decided t stands quiet
    refine ⟨fun f w flight fired width wide =>
      head_advances boundary causes pause head flight fired width wide,
      fun unfired => ⟨fun lift other => ⟨fun first group last after is inner marked distinct => ?_,
        fun first => ?_⟩, fun striking wheel unknown =>
        head_unknownAngle boundary causes pause head unfired stage draining test striking wheel
          unknown⟩⟩
    · intro code
      obtain ⟨h, t', d, n, decides, refused, _⟩ := head_withdraws boundary causes pause head unfired
        stage draining lift other first is inner marked distinct
      have codeIs : s.withdrawnLiftCode e.cell = code := by
        change _ = match e.cell with | none => _ | some id => _
        unfold State.withdrawnLiftCode
        cases e.cell with
        | none => rfl
        | some id => cases found : s.line.find id <;> simp [found]
      change s.Stands s.decideState ∧ s.decideState.strikes = _ ∧ s.decideState.seq = _ ∧
        s.decideState.line = _ ∧ s.decideState.notices.rows.liftRefused = _ ∧ _
      rw [decides]
      refine ⟨⟨rfl, rfl, rfl, rfl, rfl, rfl⟩, rfl, rfl, rfl, by rw [← codeIs]; exact refused,
        fun ⟨erase, run⟩ empty => ?_⟩
      subst empty
      exact withdrawn_idles boundary causes pause head stage draining unfired lift other first is
        inner marked distinct erase run
    · obtain ⟨n, d, decides, _⟩ := head_held boundary causes pause head unfired lift other first
      change s.Stands s.decideState ∧ s.decideState.strikes = _ ∧ s.decideState.line = _ ∧
        s.decideState.seq = _ ∧ _
      rw [decides]
      exact ⟨⟨rfl, rfl, rfl, rfl, rfl, rfl⟩, rfl, rfl, rfl, fun ⟨erase, run⟩ =>
        held_halts boundary causes pause head stage draining unfired lift other first erase run⟩

end Sys2Proof.Machine
end

section
/-! Proofs about the identification of the wheel and the wheel change procedure (R90, R98, R99, R103 to
R105, R189). -/

namespace Sys2Proof.Machine

variable {s t u v : State} {c : Cell} {i : Nat}

/-! ## What the wheel change procedure leaves -/

/-- The fields that the wheel change procedure does not write, the kept ones aside. -/
def State.aside (s : State) : Wheel × Bool × NoticeRow × NoticeRow × NoticeRow :=
  ⟨s.wheel, s.seq.recovering, s.notices.rows.cleared, s.notices.rows.ready, s.notices.rows.wheel⟩

theorem aside_fields (h : t.aside = s.aside) : t.wheel = s.wheel ∧
    t.seq.recovering = s.seq.recovering ∧ t.notices.rows.cleared = s.notices.rows.cleared ∧
    t.notices.rows.ready = s.notices.rows.ready ∧ t.notices.rows.wheel = s.notices.rows.wheel := by
  simpa only [State.aside, Prod.mk.injEq] using h

section Aside

theorem foldl_aside {α : Type} (f : State → α → State) (h : ∀ s a, (f s a).aside = s.aside)
    (l : List α) (s : State) : (l.foldl f s).aside = s.aside := by
  induction l generalizing s with
  | nil => rfl
  | cons a l ih => rw [List.foldl_cons, ih, h]

theorem withdraw_aside (p : Entry → Bool) : (s.withdraw p).aside = s.aside := by
  unfold State.withdraw
  simp only
  split <;> rfl
theorem removeCell_aside (i : Nat) : (s.removeCell i).aside = s.aside := rfl
theorem returnRegion_aside (i : Nat) : (s.returnRegion i).aside = s.aside := by
  unfold State.returnRegion
  simp only
  repeat' split
  · rfl
  · exact (withdraw_aside (s := State.setCells _ _) _).trans (withdraw_aside _)
  · exact withdraw_aside _
theorem undoOutside_aside (c : Cell) : (s.undoOutside c).aside = s.aside := by
  unfold State.undoOutside
  repeat' split
  all_goals first | rfl | exact withdraw_aside _
theorem dropIfMissing_aside (c : Cell) : (s.dropIfMissing c).aside = s.aside := by
  unfold State.dropIfMissing
  repeat' split
  all_goals rfl
theorem dropPastEnd_aside (n : Nat) : (s.dropPastEnd n).aside = s.aside := by
  induction n generalizing s with
  | zero => rfl
  | succ n ih =>
    unfold State.dropPastEnd
    repeat' split
    · exact ih
    all_goals rfl
theorem bellAfter_aside (e : Nat) : (s.bellAfter e).aside = s.aside := by
  unfold State.bellAfter
  simp only
  split <;> rfl
theorem placeWhole_aside : s.placeWhole.aside = s.aside := by
  obtain ⟨l, t, d, placed, _⟩ := placeWhole_eq s
  rw [placed]
  rfl

theorem wheelChange_aside (s : State) : s.wheelChange.aside = s.aside := by
  have undone := fun (l : List Cell) (u : State) =>
    foldl_aside (fun t c => State.undoOutside c t) (fun _ c => undoOutside_aside c) l u
  have dropped := fun (l : List Cell) (u : State) =>
    foldl_aside (fun t c => State.dropIfMissing c t) (fun _ c => dropIfMissing_aside c) l u
  unfold State.wheelChange
  simp only
  split
  · refine placeWhole_aside.trans ((bellAfter_aside _).trans ((dropPastEnd_aside _).trans ?_))
    exact (dropped _ _).trans ((undone _ _).trans (returnRegion_aside _))
  · refine (bellAfter_aside _).trans ((dropPastEnd_aside _).trans ?_)
    exact (dropped _ _).trans ((undone _ _).trans (returnRegion_aside _))

end Aside

/-! ## The end of an identification (R90, R189) -/

/-- A repeating ALARM stops, and what waits sounds (R171). -/
def ToneGenerator.alarmStopped (t : ToneGenerator) : ToneGenerator :=
  if t.sounding = some ⟨.alarm, true⟩ then ⟨t.waiting, none⟩ else t

theorem stopAlarm_eq (s : State) : s.stopAlarm = { s with tone := s.tone.alarmStopped } := by
  unfold State.stopAlarm ToneGenerator.alarmStopped ToneGenerator.endSounding
  split
  next sounds => rw [if_pos sounds]
  next other => rw [if_neg other]

/-- A recovery has succeeded (R90, R189). -/
def State.Recovers (s u : State) : Prop :=
  u.seq.recovering = false ∧ u.seq.fault = none ∧
    u.notices.rows.cleared = s.notices.rows.cleared.occur [0x01] ∧
    match s.seq.startup with
    | none => u.seq.mech = .idle
    | some p =>
      if p.sensingDone = true ∧ s.spell.main ≠ .notRead ∧ s.spell.supplement ≠ .notRead then
        u.seq.mech = .idle ∧ u.seq.startup = none ∧
          u.notices.rows.ready = s.notices.rows.ready.occur [byteOf p.kind.number]
      else u.seq.mech = .starting ∧ u.seq.startup = some ⟨p.kind, true, true, p.sensingDone⟩

/-- The state of a recovery before it goes on. -/
def State.faultCleared (s : State) : State :=
  { s with
    seq := { s.seq with
      recovering := false, fault := none
      startup := s.seq.startup.map fun u => { u with carrierDone := true, wheelDone := true } }
    tone := s.tone.alarmStopped
    notices := { s.notices with
      rows := s.notices.rows.setRow .cleared (s.notices.rows.cleared.occur [0x01]) } }

theorem recovered_eq (s : State) : s.recovered = match s.faultCleared.seq.startup with
    | some u => if s.faultCleared.partsEnded u then s.faultCleared.ready u
      else s.faultCleared.setMech .starting
    | none => s.faultCleared.toBoundary := by
  unfold State.recovered
  rw [stopAlarm_eq]
  rfl

/-- With no start-up in progress a recovery reaches a boundary. -/
theorem recovered_atRest (startup : s.seq.startup = none) :
    s.recovered = s.faultCleared.toBoundary := by
  rw [recovered_eq]
  simp [State.faultCleared, startup]

theorem headersRead_iff {sp : Spelling} :
    sp.headersRead = true ↔ sp.main ≠ .notRead ∧ sp.supplement ≠ .notRead := by
  unfold Spelling.headersRead
  rw [Bool.and_eq_true]
  exact and_congr decide_eq_true_iff decide_eq_true_iff

theorem recovered_recovers (startup : v.seq.startup = s.seq.startup.map fun p =>
      { p with wheelDone := true }) (main : v.spell.main = s.spell.main)
    (supplement : v.spell.supplement = s.spell.supplement)
    (cleared : v.notices.rows.cleared = s.notices.rows.cleared)
    (ready : v.notices.rows.ready = s.notices.rows.ready) : s.Recovers v.recovered := by
  unfold State.Recovers
  rw [← cleared, ← ready, ← main, ← supplement]
  cases start : s.seq.startup with
  | none =>
    rw [recovered_atRest (by simp [startup, start])]
    exact ⟨rfl, rfl, rfl, rfl⟩
  | some p =>
    have flight : v.faultCleared.seq.startup = some ⟨p.kind, true, true, p.sensingDone⟩ := by
      simp [State.faultCleared, startup, start]
    have parts : v.faultCleared.partsEnded ⟨p.kind, true, true, p.sensingDone⟩ = true ↔
        p.sensingDone = true ∧ v.spell.main ≠ .notRead ∧ v.spell.supplement ≠ .notRead := by
      rw [partsEnded_iff, headersRead_iff]
      simp [State.faultCleared]
    rw [recovered_eq, flight]
    simp only
    by_cases ended : p.sensingDone = true ∧ v.spell.main ≠ .notRead ∧ v.spell.supplement ≠ .notRead
    · rw [if_pos (parts.mpr ended), if_pos ended]
      exact ⟨rfl, rfl, rfl, rfl, rfl, rfl⟩
    · rw [if_neg (mt parts.mp ended), if_neg ended]
      exact ⟨rfl, rfl, rfl, rfl, flight⟩

/-- What the end of an identification writes. -/
theorem identSettled_eq (s : State) : ∃ l x q p d n o, s.identSettled =
    { s with
      line := l, text := x, seq := q, spell := p, display := d, notices := n, tone := o } ∧
    n.rows.wheel = s.notices.rows.wheel ∧
    o = (if s.seq.recovering then s.tone.alarmStopped else s.tone) ∧
    (s.seq.startup = none → l = s.line) := by
  unfold State.identSettled
  split
  · rw [recovered_eq]
    cases startup : s.seq.startup with
    | none =>
      rw [show s.faultCleared.seq.startup = none by simp [State.faultCleared, startup]]
      exact ⟨_, _, _, _, _, _, _, rfl, rfl, rfl, fun _ => rfl⟩
    | some p =>
      simp only [State.faultCleared, startup, Option.map_some]
      split
      · exact ⟨_, _, _, _, _, _, _, rfl, rfl, rfl, fun h => by simp at h⟩
      · exact ⟨_, _, _, _, _, _, _, rfl, rfl, rfl, fun h => by simp at h⟩
  · unfold State.checkReady
    split
    next p startup =>
      split
      · exact ⟨_, _, _, _, _, _, _, rfl, rfl, rfl, fun h => by simp [startup] at h⟩
      · exact ⟨_, _, _, _, _, _, _, rfl, rfl, rfl, fun _ => rfl⟩
    next => exact ⟨_, _, _, _, _, _, _, rfl, rfl, rfl, fun _ => rfl⟩

/-! ## The read of an id (R98, R99) -/

/-- The start-up's wheel part has ended, where one is in progress. -/
def Sequencer.wheelEnded (q : Sequencer) : Sequencer :=
  { q with startup := q.startup.map fun p => { p with wheelDone := true } }

/-- The sequencer with a LIFT held for its wheel let go (R86). -/
def State.letGo (s : State) (id : Nat) : Sequencer :=
  if s.strikes.entries.head?.bind (·.wheelId) = some id then { s.seq with liftHeld := false } else s.seq

theorem letLiftGo_eq (id : Nat) (s : State) : s.letLiftGo id = { s with seq := s.letGo id } := by
  unfold State.letLiftGo State.letGo
  split <;> rfl

/-- The state with which a read id comes into force, in its fields. -/
theorem wheelRead_eq (id : Nat) (s : State) : ∃ q n, s.wheelRead id =
    { s with
      wheel := { s.wheel with
        id := id, present := true, ident := .idle, holding := none
        family := if id = s.wheel.id then s.wheel.family else familyOf id
        move := some (petalAngle 0 s.retained.wheelPhase) }
      inputs := { s.inputs with coverIdent := false }, seq := q, notices := n } ∧
    q.startup = s.seq.wheelEnded.startup ∧ q.recovering = s.seq.recovering ∧
    n.rows.cleared = s.notices.rows.cleared ∧ n.rows.ready = s.notices.rows.ready := by
  have family : (if id ≠ s.wheel.id then familyOf id else s.wheel.family) =
      if id = s.wheel.id then s.wheel.family else familyOf id := by
    by_cases same : id = s.wheel.id <;> simp [same]
  unfold State.wheelRead State.letLiftGo
  rw [← family]
  simp only
  repeat' split
  all_goals exact ⟨_, _, rfl, rfl, rfl, rfl, rfl⟩

/-- With no start-up in progress an id that differs is told with the state the wheel change begins from. -/
theorem wheelRead_changed {id : Nat} (changed : id ≠ s.wheel.id) (startup : s.seq.startup = none) :
    s.wheelRead id = ((({ s with
        wheel := { s.wheel with
          id := id, present := true, ident := .idle, holding := none, family := familyOf id
          move := some (petalAngle 0 s.retained.wheelPhase) }
        inputs := { s.inputs with coverIdent := false } } : State).letLiftGo id).raise .wheel
      [byteOf id, byteOf (familyOf id), byteOf (bit (knownFamily id).isNone)]) := by
  have ended : s.identOver = { s with
      wheel := { s.wheel with ident := .idle, holding := none }
      inputs := { s.inputs with coverIdent := false } } := mapStartup_none (by exact startup)
  have told : (decide (id ≠ s.wheel.id) || s.seq.startup.isSome) = true := by simp [changed]
  unfold State.wheelRead
  rw [ended, if_pos told, if_pos changed, letLiftGo_eq, letLiftGo_eq]
  rfl

/-- What a read leaves in the cases the id and the start-up distinguish. -/
theorem readId_leaves (id : Nat) (s : State) :
    let u := s.readId id
    let wheel : Wheel := { s.wheel with
      id := id, present := true, ident := .idle, holding := none
      family := if id = s.wheel.id then s.wheel.family else familyOf id
      move := some (petalAngle 0 s.retained.wheelPhase) }
    u.wheel = wheel ∧ u.inputs.coverIdent = false ∧ u.keys = s.keys ∧ s.sameSettings u ∧
      (id = s.wheel.id → s.seq.startup = none → u.line = s.line ∧ u.strikes = s.strikes) ∧
      (id ≠ s.wheel.id → s.seq.startup = none → u.line = (s.wheelRead id).wheelChange.line ∧
        u.strikes = (s.wheelRead id).wheelChange.strikes ∧
        u.notices.rows.wheel = (s.wheelRead id).notices.rows.wheel) ∧
      (s.seq.recovering = true → s.Recovers u ∧
        (id = s.wheel.id → u.tone = s.tone.alarmStopped)) := by
  obtain ⟨q, n, read, startup, recovering, cleared, ready⟩ := wheelRead_eq id s
  let v : State := if id ≠ s.wheel.id && !s.seq.startup.isSome then (s.wheelRead id).wheelChange
    else s.wheelRead id
  have is : s.readId id = v.identSettled := readId_eq id s
  have aside : v.aside = (s.wheelRead id).aside := by
    change (if _ then _ else _ : State).aside = _
    split
    · exact wheelChange_aside _
    · rfl
  have kept : v.kept = (s.wheelRead id).kept := by
    change (if _ then _ else _ : State).kept = _
    split
    · exact wheelChange_kept
    · rfl
  obtain ⟨wheel, recovers, clearedIs, readyIs, wheelRow⟩ := aside_fields aside
  obtain ⟨_, _, _, keys, settings, retained, inputs, _, _, _, starts, _, _, _, _, _, _, _, _, _, _,
    main, supplement⟩ := Kept.fields kept
  obtain ⟨l, x, q', p, d, n', o, settles, row, tone, line⟩ := identSettled_eq v
  have same (known : id = s.wheel.id) : v = s.wheelRead id := if_neg (by simp [known])
  have changes (changed : id ≠ s.wheel.id) (start : s.seq.startup = none) :
      v = (s.wheelRead id).wheelChange := if_pos (by simp [changed, start])
  have none (start : s.seq.startup = none) : v.seq.startup = none := by
    rw [starts, read]
    exact startup.trans (by simp [Sequencer.wheelEnded, start])
  intro u wheelNow
  refine ⟨?_, ?_, ?_, ?_, fun known start => ⟨?_, ?_⟩, fun changed start => ⟨?_, ?_, ?_⟩,
    fun recovering' => ⟨?_, fun known => ?_⟩⟩
  · rw [show u = v.identSettled from is, settles]
    exact wheel.trans (by rw [read])
  · rw [show u = v.identSettled from is, settles]
    exact (congrArg Inputs.coverIdent inputs).trans (by rw [read])
  · rw [show u = v.identSettled from is, settles]
    exact keys.trans (by rw [read])
  · rw [show u = v.identSettled from is, settles]
    exact ⟨settings.trans (by rw [read]), retained.trans (by rw [read])⟩
  · rw [show u = v.identSettled from is, settles]
    exact (line (none start)).trans (by rw [same known, read])
  · rw [show u = v.identSettled from is, settles]
    change v.strikes = _
    rw [same known, read]
  · rw [show u = v.identSettled from is, settles]
    exact (line (none start)).trans (by rw [changes changed start])
  · rw [show u = v.identSettled from is, settles]
    change v.strikes = _
    rw [changes changed start]
  · rw [show u = v.identSettled from is, settles]
    exact row.trans wheelRow
  · have recover : v.identSettled = v.recovered := by
      refine if_pos ?_
      rw [recovers, read]
      exact recovering.trans recovering'
    rw [show u = v.identSettled from is, recover]
    refine recovered_recovers ?_ (main.trans (by rw [read])) (supplement.trans (by rw [read]))
      (clearedIs.trans (by rw [read]; exact cleared)) (readyIs.trans (by rw [read]; exact ready))
    rw [starts, read]
    exact startup
  · rw [show u = v.identSettled from is, settles]
    refine tone.trans ?_
    rw [if_pos (recovers.trans (by rw [read]; exact recovering.trans recovering')), same known, read]

/-! ## Placing the returned region again (R103 to R105) -/

theorem foldl_same {α : Type} {f : State → α → State} {l : List α} (h : ∀ a ∈ l, f s a = s) :
    l.foldl f s = s := by
  induction l with
  | nil => rfl
  | cons a l ih =>
    obtain ⟨first, others⟩ := List.forall_mem_cons.mp h
    rw [List.foldl_cons, first]
    exact ih others

/-- Cells that follow one another end where the cells before them end, plus what they take. -/
theorem endPos_chainFrom (l : Line) (front cells : List Cell) :
    ({ l with cells := front ++ chainFrom ({ l with cells := front } : Line).endPos cells } :
      Line).endPos = ({ l with cells := front } : Line).endPos + width cells := by
  induction cells generalizing front with
  | nil => simp [chainFrom]
  | cons c cells ih =>
    let x := ({ l with cells := front } : Line).endPos
    have next : ({ l with cells := front ++ [{ c with x := x }] } : Line).endPos = x + c.e := by
      simp [Line.endPos]
    have rest := ih (front ++ [{ c with x := x }])
    rw [next, List.append_assoc] at rest
    rw [width_cons, ← Nat.add_assoc]
    exact rest

/-- Cells without a TAB are placed one after the other with the escapements of the wheel in force. -/
theorem placeWheel_plain {cells : List Cell} (w x : Nat) (plain : ∀ c ∈ cells, c.kind ≠ .tab) :
    placeWheel s w x cells = chainFrom x (cells.map fun c => { c with e := s.freshE c }) := by
  induction cells generalizing x with
  | nil => rfl
  | cons c cells ih =>
    obtain ⟨here, others⟩ := List.forall_mem_cons.mp plain
    unfold placeWheel
    simp only [List.map_cons, chainFrom, ih _ others]

theorem undoOutside_same (queued : c.state = .queued → c.prior = none) (notLifting : c.state ≠ .lifting) :
    s.undoOutside c = s := by
  unfold State.undoOutside
  repeat' split
  all_goals simp_all
theorem dropIfMissing_same (has : c.kind = .glyph → (s.petalOf (c.code.getD 0)).isSome = true) :
    s.dropIfMissing c = s := by
  unfold State.dropIfMissing
  split
  next missing => simp_all
  next => rfl
theorem dropPastEnd_same (n : Nat) (fits : s.line.endPos ≤ 1560) : s.dropPastEnd n = s := by
  cases n with
  | zero => rfl
  | succ n =>
    unfold State.dropPastEnd
    split
    · exact if_neg (Nat.not_lt.mpr fits)
    · rfl

theorem bellAfter_line (e : Nat) (s : State) :
    (s.bellAfter e).line = s.line ∧ (s.bellAfter e).strikes = s.strikes := by
  unfold State.bellAfter
  simp only
  split <;> exact ⟨rfl, rfl⟩

/-- A line of released cells with PENDING ones behind them. -/
theorem released_tail {front back : List Cell} (l : Line) (cells : l.cells = front ++ back)
    (released : ∀ c ∈ front, c.state ≠ .pending) (pending : ∀ c ∈ back, c.state = .pending) :
    l.released = front ∧ l.tail = back := by
  unfold Line.released Line.tail
  rw [cells, List.takeWhile_append_of_pos (by simpa using released),
    List.dropWhile_append_of_pos (by simpa using released)]
  cases back with
  | nil => simp
  | cons c back =>
    have first : c.state = .pending := pending c (List.mem_cons_self ..)
    simp [first]

/-- The cells of a region that returns: QUEUED again PENDING, the others PENDING as they were. -/
theorem toPending_state (c : Cell) : c.toPending.state = .pending := by
  unfold Cell.toPending
  split <;> rfl
theorem toPending_leaves (c : Cell) : c.toPending.kind = c.kind ∧ c.toPending.code = c.code ∧
    c.toPending.prior = c.prior ∧ c.toPending.e = c.e := by
  unfold Cell.toPending
  split <;> exact ⟨rfl, rfl, rfl, rfl⟩
theorem toPending_pending (pending : c.state = .pending) : c.toPending = c := by
  unfold Cell.toPending
  rw [if_neg (by simp [pending]), ← pending]

/-- The QUEUED cells of the region. -/
def State.regionQueued (s : State) (i : Nat) : List Cell :=
  (s.line.cells.drop i).filter fun c => c.state = .queued

theorem withdraw_eq (p : Entry → Bool) : ∃ q h t, s.withdraw p = { s with
    strikes := { s.strikes with entries := s.strikes.entries.filter fun e => !p e }
    seq := q, hammer := h, text := t } := by
  unfold State.withdraw
  simp only
  split <;> exact ⟨_, _, _, rfl⟩

theorem returnRegion_open (opened : s.line.state = .open)
    (states : ∀ c ∈ s.line.cells.drop i, c.state = .pending ∨ c.state = .queued ∨
      c.state = .struck ∧ ∃ d ∈ s.line.cells.drop i, d.state = .queued) :
    ∃ q h t, s.returnRegion i = { s with
      strikes := { s.strikes with entries := s.strikes.entries.filter fun e =>
        !((s.regionQueued i).any fun c => e.cell = some c.id) }
      seq := q, hammer := h, text := t
      line := { s.line with
        cells := returnCells i s.line.cells
        run := if s.regionQueued i = [] then s.line.run
          else some (extendRun s.line.run s.line.firstPending .none) } } := by
  let ids := (s.regionQueued i).map (·.id)
  have names : (fun e : Entry => (e.cell.map ids.contains).getD false) =
      fun e => (s.regionQueued i).any fun c => e.cell = some c.id := by
    funext e
    cases e.cell with
    | none => simp
    | some id =>
      change ids.contains id = _
      simp only [Option.some.injEq, ids, List.contains_eq_any_beq, List.any_map]
      rfl
  have region : s.returnRegion i = if ids.isEmpty then s else
      ((s.withdraw fun e => (s.regionQueued i).any fun c => e.cell = some c.id).setCells
        (returnCells i (s.withdraw fun e =>
          (s.regionQueued i).any fun c => e.cell = some c.id).line.cells)).startRun
        s.line.firstPending .none := by
    rw [← names]
    unfold State.returnRegion
    simp only [opened]
    rfl
  rw [region]
  by_cases none : s.regionQueued i = []
  · have pending : ∀ c ∈ s.line.cells.drop i, c.state = .pending := by
      have notQueued : ∀ c ∈ s.line.cells.drop i, c.state ≠ .queued := by
        simpa [State.regionQueued] using none
      intro c member
      rcases states c member with pending | queued | ⟨_, d, isIn, queued⟩
      · exact pending
      · exact absurd queued (notQueued c member)
      · exact absurd queued (notQueued d isIn)
    have region : (s.line.cells.drop i).map Cell.toPending = s.line.cells.drop i :=
      (List.map_congr_left fun c member => toPending_pending (pending c member)).trans (List.map_id _)
    have same : returnCells i s.line.cells = s.line.cells := by
      rw [returnCells, region, List.take_append_drop]
    rw [if_pos (by simp [ids, none]), if_pos none, same, none]
    refine ⟨s.seq, s.hammer, s.text, ?_⟩
    simp
  · obtain ⟨q, h, t, withdraws⟩ := withdraw_eq (s := s) fun e =>
      (s.regionQueued i).any fun c => e.cell = some c.id
    rw [if_neg (by simpa [ids] using none), if_neg none, withdraws]
    exact ⟨q, h, t, rfl⟩

/-- A cell of the region as it is placed again, but for its place. -/
def State.placedAgain (s : State) (c : Cell) : Cell := { c.toPending with e := s.freshE c }

/-- The wheel change procedure on an OPEN line of plain cells. -/
theorem wheelChange_open (i' : s.line.returnedFrom = i) (inside : i ≤ s.line.cells.length)
    (opened : s.line.state = .open)
    (front : ∀ c ∈ s.line.cells.take i, c.state ≠ .pending ∧ c.state ≠ .lifting ∧ c.prior = none)
    (region : ∀ c ∈ s.line.cells.drop i, c.prior = none ∧ (c.kind = .space ∨ c.kind = .glyph ∧
      (s.petalOf (c.code.getD 0)).isSome = true) ∧ (c.state = .pending ∨ c.state = .queued ∨
      c.state = .struck ∧ ∃ d ∈ s.line.cells.drop i, d.state = .queued)) :
    let x := ({ s.line with cells := s.line.cells.take i } : Line).endPos
    x + ((s.line.cells.drop i).map s.freshE).sum ≤ 1560 →
    s.wheelChange.line = { s.line with
        cells := s.line.cells.take i ++ chainFrom x ((s.line.cells.drop i).map s.placedAgain)
        run := if s.regionQueued i = [] then s.line.run
          else some (extendRun s.line.run s.line.firstPending .none) } ∧
      s.wheelChange.strikes.entries = s.strikes.entries.filter fun e =>
        !((s.regionQueued i).any fun c => e.cell = some c.id) := by
  intro x fits
  obtain ⟨q, h, t, returns⟩ :=
    returnRegion_open opened fun c member => (region c member).2.2
  let v : State := s.returnRegion i
  have cells : v.line.cells = s.line.cells.take i ++ (s.line.cells.drop i).map Cell.toPending := by
    simp only [v, returns]
    rfl
  have back : v.line.cells.drop i = (s.line.cells.drop i).map Cell.toPending := by
    rw [cells, List.drop_left' (by simpa using inside)]
  have undone : v.line.cells.foldl (fun t c => State.undoOutside c t) v = v := by
    refine foldl_same fun c member => ?_
    rw [cells] at member
    rcases List.mem_append.mp member with isFront | isBack
    · obtain ⟨_, notLifting, prior⟩ := front c isFront
      exact undoOutside_same (fun _ => prior) notLifting
    · obtain ⟨d, _, rfl⟩ := List.mem_map.mp isBack
      exact undoOutside_same (by simp [toPending_state]) (by simp [toPending_state])
  have dropped : (v.line.cells.drop i).foldl (fun t c => State.dropIfMissing c t) v = v := by
    refine foldl_same fun c member => ?_
    rw [back] at member
    obtain ⟨d, isIn, rfl⟩ := List.mem_map.mp member
    obtain ⟨kind, code, _, _⟩ := toPending_leaves d
    obtain ⟨_, shape, _⟩ := region d isIn
    refine dropIfMissing_same ?_
    rw [kind, code]
    intro glyph
    have has := (shape.resolve_left (by simp [glyph])).2
    simp only [v, returns]
    exact has
  obtain ⟨released, tail⟩ := released_tail v.line cells (fun c member => (front c member).1)
    fun c member => by
      obtain ⟨d, _, rfl⟩ := List.mem_map.mp member
      exact toPending_state d
  have start : v.line.tailStart = x := by
    unfold Line.tailStart
    rw [released]
    simp only [v, returns]
    rfl
  have fresh (c : Cell) : v.freshE c.toPending = s.freshE c := by
    obtain ⟨kind, code, _, width⟩ := toPending_leaves c
    unfold State.freshE
    rw [kind, code, width]
    simp only [v, returns]
    rfl
  have placed : placeWheel v (runWidth v.text.aligned v.freshE v.line.cells) v.line.tailStart
      v.line.tail = chainFrom x ((s.line.cells.drop i).map s.placedAgain) := by
    rw [tail, start, placeWheel_plain, List.map_map]
    · exact congrArg (chainFrom x) (List.map_congr_left fun c _ => by simp [fresh, State.placedAgain])
    · intro c member
      obtain ⟨d, isIn, rfl⟩ := List.mem_map.mp member
      obtain ⟨kind, _⟩ := toPending_leaves d
      obtain ⟨_, space | ⟨glyph, _⟩, _⟩ := region d isIn
      · simp [kind, space]
      · simp [kind, glyph]
  let w : State := v.replaceWheel
  have cellsNow : w.line.cells = s.line.cells.take i ++ chainFrom x ((s.line.cells.drop i).map s.placedAgain) := by
    change v.line.released ++ placeWheel v _ _ _ = _
    rw [released, placed]
  have ends : w.line.endPos ≤ 1560 := by
    have sum := endPos_chainFrom s.line (s.line.cells.take i)
      ((s.line.cells.drop i).map s.placedAgain)
    let cs := s.line.cells.take i ++ chainFrom x ((s.line.cells.drop i).map s.placedAgain)
    have same : w.line.endPos = ({ s.line with cells := cs } : Line).endPos := by
      have startIs : w.line.start = s.line.start := by
        change v.line.start = _
        simp only [v, returns]
      unfold Line.endPos
      rw [cellsNow, startIs]
    have widths : width ((s.line.cells.drop i).map s.placedAgain) =
        ((s.line.cells.drop i).map s.freshE).sum := by
      unfold width
      rw [List.map_map]
      rfl
    rw [same, sum, widths]
    exact fits
  have kept := bellAfter_line v.line.endPos w
  have result : s.wheelChange = w.bellAfter v.line.endPos := by
    unfold State.wheelChange
    simp only [i']
    rw [show s.returnRegion i = v from rfl, undone, dropped, dropPastEnd_same _ (by exact ends)]
    refine if_neg ?_
    have isOpen : (w.bellAfter v.line.endPos).line.state = .open := by
      rw [kept.1]
      change v.line.state = _
      simp only [v, returns]
      exact opened
    change ¬ ((w.bellAfter v.line.endPos).line.returning && _) = true
    simp [Line.returning, isOpen]
  rw [result, kept.1, kept.2]
  constructor
  · have line : w.line = { v.line with cells := w.line.cells } := rfl
    rw [line, cellsNow]
    simp only [v, returns]
  · change v.strikes.entries = _
    simp only [v, returns]

/-! ## Groups undone, and cells without a petal (R104, R105) -/

/-- A fill or overstrike not begun is undone, and a LIFT of another wheel; a code without a petal leaves. -/
theorem undo_and_drop (notBegun : s.cellBegun c.id = false) :
    let t := s.undoOutside c
    let undone (f : Cell → Cell) :=
      t.line.cells = (s.line.cells.map fun d => if d.id = c.id then f d else d) ∧
      t.strikes.entries = s.strikes.entries.filter fun e => !decide (e.cell = some c.id)
    (∀ p, c.state = .queued → c.prior = some p → undone (fun d => d.restore p) ∧
      t.notices.rows.cellDropped = s.notices.rows.cellDropped.occur [1, c.unstruckCode]) ∧
    (c.state = .lifting → c.wheelId ≠ some s.wheel.id →
      undone (fun d => { d with state := .struck }) ∧
      t.notices.rows.liftRefused = s.notices.rows.liftRefused.occur [0, c.liftCode]) ∧
    (∀ i, c.kind = .glyph → s.petalOf (c.code.getD 0) = none →
      cellIndex c.id s.line.cells = some i →
      (s.dropIfMissing c).line.cells = s.line.cells.eraseIdx i ∧
      (s.dropIfMissing c).notices.rows.cellDropped =
        s.notices.rows.cellDropped.occur [0, c.dropCode]) := by
  obtain ⟨q, h, t, withdraws⟩ := withdraw_eq (s := s) fun e => e.cell = some c.id
  refine ⟨fun p state prior => ?_, fun state wheel => ?_, fun i kind missing index => ?_⟩
  · have undoes : s.undoOutside c = ((s.withdrawCell c.id).mapCell c.id fun d =>
        d.restore p).raiseDropped 1 c.unstruckCode := by
      simp [State.undoOutside, notBegun, state, prior]
    rw [undoes, State.withdrawCell, withdraws]
    exact ⟨⟨rfl, rfl⟩, rfl⟩
  · have undoes : s.undoOutside c = ((s.withdrawCell c.id).mapCell c.id fun d =>
        { d with state := .struck }).raiseLiftRefused .wheelChanged c.liftCode := by
      simp [State.undoOutside, notBegun, state, wheel]
    rw [undoes, State.withdrawCell, withdraws]
    exact ⟨⟨rfl, rfl⟩, rfl⟩
  · have drops : s.dropIfMissing c = (s.removeCell i).raiseDropped 0 c.dropCode := by
      unfold State.dropIfMissing
      rw [missing]
      simp [kind, index]
    rw [drops]
    exact ⟨rfl, rfl⟩

/-! ## The commands (R98) -/

theorem familyOf_eq (id : Nat) : familyOf id = if 1 ≤ id ∧ id ≤ 9 then id else 1 := by
  unfold familyOf knownFamily
  by_cases listed : 1 ≤ id ∧ id ≤ 9
  · rw [if_pos (by simpa using listed), if_pos listed]
    rfl
  · rw [if_neg (by simpa using listed), if_neg listed]
    rfl
theorem unknownFamily_bit (id : Nat) :
    bit (knownFamily id).isNone = if 1 ≤ id ∧ id ≤ 9 then 0 else 1 := by
  unfold knownFamily
  by_cases listed : 1 ≤ id ∧ id ≤ 9
  · rw [if_pos (by simpa using listed), if_pos listed]
    rfl
  · rw [if_neg (by simpa using listed), if_neg listed]
    rfl

/-- The fourth data notch gives the id. -/
theorem fourthNotch_reads {a b c d : Bool} {w : Nat} (live : s.live = true)
    (ident : s.wheel.ident = .reading [a, b, c]) (full : s.wheel.holding = some w)
    (width : if d then 12 ≤ w ∧ w ≤ 20 else 4 ≤ w ∧ w ≤ 9) :
    exec .notchClassified s = .next ((({ s with
      wheel := { s.wheel with holding := none } } : State).readId
        (8 * bit a + 4 * bit b + 2 * bit c + bit d)).conclude s) := by
  have run := exec_classified live (by simp [ident]) full
  have reads : ({ s with wheel := { s.wheel with holding := none } } : State).classified
      (notchClass w) = ({ s with wheel := { s.wheel with holding := none } } : State).dataNotch
        [a, b, c] d := by
    cases d with
    | true =>
      rw [if_pos rfl] at width
      simp [notchClass_wide width, State.classified, ident]
    | false =>
      rw [if_neg (by simp)] at width
      simp [notchClass_narrow width, State.classified, ident]
  have id : idOf [a, b, c, d] = 8 * bit a + 4 * bit b + 2 * bit c + bit d := by
    simp only [idOf, List.foldl_cons, List.foldl_nil]
    omega
  rw [← id]
  exact run.trans (congrArg (fun u : State => Host.Outcome.next (u.conclude s)) reads)

/-- Two revolutions without a notch end the search with no wheel, with notches by WHEEL_HOME. -/
theorem exec_searchLimit_none (live : s.live = true) (ident : s.wheel.ident = .searching false) :
    exec .searchRevolutionLimit s = .next (s.noWheelFound.conclude s) := by
  change execSearchRevolutionLimit s = _
  simp [execSearchRevolutionLimit, live, ident]
theorem exec_searchLimit_seen (live : s.live = true) (ident : s.wheel.ident = .searching true) :
    exec .searchRevolutionLimit s = .next ((s.identFailed .wheelHome).conclude s) := by
  change execSearchRevolutionLimit s = _
  simp [execSearchRevolutionLimit, live, ident]

/-- The state in which no wheel has been found. -/
def State.wheelless (s : State) : State :=
  { s with
    wheel := { s.wheel with ident := .idle, holding := none, present := false }
    inputs := { s.inputs with coverIdent := false }, seq := s.seq.wheelEnded }

/-- Settles O43: the read and its end, the search's two ends, and the wheel change procedure. -/
theorem identificationReadsId : Obligations.IdentificationReadsId := by
  refine ⟨?_, ?_, ?_, ?_, ?_, fun s c notBegun => undo_and_drop notBegun⟩
  · intro s a b c d w live ident full width id listed family wheel v
    let t : State := { s with wheel := { s.wheel with holding := none } }
    have run := fourthNotch_reads live ident full width
    obtain ⟨wheelIs, cover, keys, settings, known, changed, recovers⟩ := readId_leaves id t
    have familyIs : (if id = s.wheel.id then s.wheel.family else familyOf id) = family := by
      rw [familyOf_eq]
    refine ⟨_, run, wheelIs.trans ?_, cover, keys, settings, known, fun differs start => ?_,
      recovers⟩
    · rw [show (if id = t.wheel.id then t.wheel.family else familyOf id) = family from familyIs]
    · have read : t.wheelRead id = v := by
        have familyNow : family = familyOf id := by rw [← familyIs, if_neg differs]
        have reads := wheelRead_changed (s := t) differs start
        rw [← familyNow, unknownFamily_bit] at reads
        exact reads
      rw [← read]
      exact changed differs start
  · intro s live ident
    have found : s.noWheelFound = s.wheelless.identSettled := rfl
    obtain ⟨l, x, q, p, d, n, o, settles, _⟩ := identSettled_eq s.wheelless
    rw [settles] at found
    obtain ⟨tr, sa, ba, kept⟩ := conclude_kept s.noWheelFound s
    rw [found] at kept
    simp only [State.kept, Kept.mk.injEq] at kept
    obtain ⟨_, _, _, keys, settings, retained, inputs, _, _, _, _, id, present, family, _, _, ends,
      _⟩ := kept
    refine ⟨_, exec_searchLimit_none live ident, ?_⟩
    rw [found]
    exact ⟨present, id, family, ends, congrArg Inputs.coverIdent inputs, keys, settings, retained⟩
  · intro s live ident recovering
    have recover : s.noWheelFound = s.wheelless.recovered := if_pos recovering
    obtain ⟨l, x, q, p, d, n, o, settles, _, tone, _⟩ := identSettled_eq s.wheelless
    have found : s.noWheelFound = s.wheelless.identSettled := rfl
    refine ⟨_, exec_searchLimit_none live ident, ?_, ?_, ?_, ?_⟩
    · rw [recover]
      exact recovered_recovers (s := s) (v := s.wheelless) rfl rfl rfl rfl rfl
    · rw [found, settles]
      exact tone.trans (if_pos recovering)
    · rw [found, settles]
      rfl
    · rw [found, settles]
      rfl
  · intro s live ident
    obtain ⟨mech, fault, stage, recovering, strikes, line, keys, settings, inputs, _, wheel, _, _,
      notice, tone⟩ := takeFault_leaves .wheelHome s.wheelless
    exact ⟨_, exec_searchLimit_seen live ident, wheel, mech, fault, stage, recovering,
      congrArg Inputs.coverIdent inputs, notice, tone, line, strikes, keys, settings⟩
  · intro s i is inside _ opened _ front region x fits queued back t
    obtain ⟨line, entries⟩ := wheelChange_open is inside opened front region fits
    exact ⟨line, entries⟩

end Sys2Proof.Machine
end

section
/-! Proofs that a line without word records stays one while an event settles with the spelling mode OFF: no
operation of the Text Engine, the release run or the Print Sequencer makes a record, a word id or a "? word"
message (R145, R153). -/

namespace Sys2Proof.Machine

variable {s t : State} {l : Option Lookup}

/-- A lookup in progress that is dropped where there is one. -/
def dropped (l : Option Lookup) : Option Lookup := l.map fun x => { x with dropped := true }

theorem dropped_dropped (l : Option Lookup) : dropped (dropped l) = dropped l := by
  cases l <;> rfl

/-- No record, no queued lookup, no word id and no word's message stands, and the lookup in progress, if
any, is a dropped one. -/
def State.Wordless (s : State) (l : Option Lookup) : Prop :=
  s.settings.spell = .off ∧ s.spell.table = [] ∧ s.spell.lookups = [] ∧ s.spell.lookup = dropped l ∧
    (∀ c ∈ s.line.cells, c.wordId = none) ∧
    ∀ m, s.display.slot = some m → m.isWord = false

/-- Cells without word ids after a change that gives none. -/
theorem map_wordless {f : Cell → Cell} {cells : List Cell} (h : ∀ c ∈ cells, c.wordId = none)
    (keeps : ∀ c, c.wordId = none → (f c).wordId = none) : ∀ c ∈ cells.map f, c.wordId = none := by
  intro c member
  obtain ⟨d, isIn, rfl⟩ := List.mem_map.mp member
  exact keeps d (h d isIn)

theorem foldl_wordless {α : Type} {f : State → α → State} (keeps : ∀ (s : State) (a : α),
    s.Wordless l → (f s a).Wordless l) (as : List α) (h : s.Wordless l) :
    (as.foldl f s).Wordless l := by
  induction as generalizing s with
  | nil => exact h
  | cons a as ih => exact ih (keeps s a h)

/-! ## The shared operations -/

theorem hearCursor_slot (a b : Nat) (d : Display) : (d.hearCursor a b).slot = d.slot := by
  unfold Display.hearCursor
  split <;> rfl

@[simp] theorem raise_wordless (h : s.Wordless l) (k d) : (s.raise k d).Wordless l := h
@[simp] theorem requestTone_wordless (h : s.Wordless l) (k r) : (s.requestTone k r).Wordless l := h
@[simp] theorem click_wordless (h : s.Wordless l) : s.click.Wordless l := h
@[simp] theorem noteR23_wordless (h : s.Wordless l) : s.noteR23.Wordless l := h
@[simp] theorem startRun_wordless (h : s.Wordless l) (k e) : (s.startRun k e).Wordless l := h
@[simp] theorem raiseDropped_wordless (h : s.Wordless l) (a b) : (s.raiseDropped a b).Wordless l := h
@[simp] theorem putMessage_wordless (h : s.Wordless l) (text) : (s.putMessage text none).Wordless l := by
  obtain ⟨off, table, lookups, lookup, cells, _⟩ := h
  refine ⟨off, table, lookups, lookup, cells, fun m is => ?_⟩
  obtain rfl := Option.some.inj is
  rfl
@[simp] theorem raiseLiftRefused_wordless (h : s.Wordless l) (a b) :
    (s.raiseLiftRefused a b).Wordless l := putMessage_wordless (raise_wordless h _ _) _
@[simp] theorem mapCell_wordless (h : s.Wordless l) {f : Cell → Cell}
    (keeps : ∀ c, c.wordId = none → (f c).wordId = none) (i) : (s.mapCell i f).Wordless l := by
  obtain ⟨off, table, lookups, lookup, cells, slot⟩ := h
  refine ⟨off, table, lookups, lookup, map_wordless cells fun c none => ?_, slot⟩
  split
  · exact keeps c none
  · exact none
@[simp] theorem setCursor_wordless (h : s.Wordless l) (c) : (s.setCursor c).Wordless l := by
  obtain ⟨off, table, lookups, lookup, cells, slot⟩ := h
  exact ⟨off, table, lookups, lookup, cells, fun m is => slot m ((hearCursor_slot ..).symm.trans is)⟩
@[simp] theorem removeCell_wordless (h : s.Wordless l) (i) : (s.removeCell i).Wordless l := by
  obtain ⟨off, table, lookups, lookup, cells, slot⟩ := h
  exact ⟨off, table, lookups, lookup, fun c member => cells c (List.mem_of_mem_eraseIdx member),
    fun m is => slot m ((hearCursor_slot ..).symm.trans is)⟩
@[simp] theorem insertCell_wordless (h : s.Wordless l) {c : Cell} (none : c.wordId = none) (i) :
    (s.insertCell i c).Wordless l := by
  obtain ⟨off, table, lookups, lookup, cells, slot⟩ := h
  refine ⟨off, table, lookups, lookup, fun d member => ?_,
    fun m is => slot m ((hearCursor_slot ..).symm.trans is)⟩
  rcases List.eq_or_mem_of_mem_insertIdx member with rfl | old
  · exact none
  · exact cells d old
@[simp] theorem nextLine_wordless (h : s.Wordless l) : s.nextLine.Wordless l := by
  obtain ⟨off, _, _, lookup, _, slot⟩ := h
  refine ⟨off, rfl, rfl, ?_, fun c member => absurd member List.not_mem_nil, fun m is => ?_⟩
  · change dropped s.spell.lookup = _
    rw [lookup, dropped_dropped]
  · have old : s.display.slot.map (fun m => { m with word := none }) = some m :=
      (hearCursor_slot s.line.cursor 0 s.closeLine.display).symm.trans is
    obtain ⟨n, stood, rfl⟩ := Option.map_eq_some_iff.mp old
    exact slot n stood
@[simp] theorem reopen_wordless (h : s.Wordless l) : s.reopen.Wordless l := by
  obtain ⟨off, table, lookups, lookup, cells, slot⟩ := h
  exact ⟨off, table, lookups, lookup, cells, fun m is => slot m ((hearCursor_slot ..).symm.trans is)⟩
@[simp] theorem bellAfter_wordless (h : s.Wordless l) (e) : (s.bellAfter e).Wordless l := by
  unfold State.bellAfter
  simp only
  split <;> exact h
@[simp] theorem appendGroup_wordless (h : s.Wordless l) (es) : (s.appendGroup es).Wordless l := by
  unfold State.appendGroup
  split <;> exact h
@[simp] theorem withdraw_wordless (h : s.Wordless l) (p) : (s.withdraw p).Wordless l := by
  unfold State.withdraw
  simp only
  split <;> exact h

/-- A re-placement leaves the word ids. -/
theorem placeFrom_words {al : Option Aligned} {w x : Nat} {cells placed : List Cell}
    (is : placeFrom al w x cells = some placed) : placed.map (·.wordId) = cells.map (·.wordId) := by
  induction cells generalizing x placed with
  | nil =>
    cases is
    rfl
  | cons c cells ih =>
    unfold placeFrom at is
    split at is
    · cases is
    · obtain ⟨rest, found, rfl⟩ := Option.map_eq_some_iff.mp is
      simp [ih found]
theorem rechain_words {al : Option Aligned} {ln : Line} {cells : List Cell}
    (is : rechain al ln = some cells) : cells.map (·.wordId) = ln.cells.map (·.wordId) := by
  obtain ⟨placed, found, rfl⟩ := Option.map_eq_some_iff.mp is
  rw [List.map_append, placeFrom_words found, ← List.map_append]
  exact congrArg _ List.takeWhile_append_dropWhile
theorem replace_wordless (h : s.Wordless l) (is : s.replace = some t) : t.Wordless l := by
  obtain rfl | ⟨cells, placed, rfl, _⟩ := replace_cases is
  · exact h
  · obtain ⟨off, table, lookups, lookup, none, slot⟩ := h
    refine ⟨off, table, lookups, lookup, fun c member => ?_, slot⟩
    have word : c.wordId ∈ s.line.cells.map (·.wordId) := by
      rw [← rechain_words placed]
      exact List.mem_map_of_mem member
    obtain ⟨d, isIn, same⟩ := List.mem_map.mp word
    exact same.symm.trans (none d isIn)

/-! ## Release runs -/

@[simp] theorem releaseCell_wordless (h : s.Wordless l) (c) : (s.releaseCell c).Wordless l := by
  unfold State.releaseCell
  simp only
  repeat' split
  · exact noteR23_wordless (mapCell_wordless h (by exact fun _ none => none) _)
  · exact noteR23_wordless (mapCell_wordless (appendGroup_wordless h _) (by exact fun _ none => none) _)
  · exact mapCell_wordless h (by exact fun _ none => none) _
  · exact mapCell_wordless (appendGroup_wordless h _) (by exact fun _ none => none) _
@[simp] theorem appendCarry_wordless (h : s.Wordless l) (c) : (s.appendCarry c).Wordless l := by
  unfold State.appendCarry
  simp only
  repeat' split
  all_goals simp [h]
@[simp] theorem appendAllCarry_wordless (h : s.Wordless l) : s.appendAllCarry.Wordless l :=
  setCursor_wordless
    (foldl_wordless (fun _ c kept => appendCarry_wordless kept c) s.text.carry h) _
@[simp] theorem endRun_wordless (h : s.Wordless l) : s.endRun.Wordless l := h
@[simp] theorem returnEnding_wordless (h : s.Wordless l) : s.returnEnding.Wordless l :=
  appendGroup_wordless h [s.returnEntry]
@[simp] theorem wrapEnding_wordless (h : s.Wordless l) : s.wrapEnding.Wordless l :=
  appendAllCarry_wordless (nextLine_wordless (endRun_wordless (appendGroup_wordless h _)))
@[simp] theorem runStep_wordless (h : s.Wordless l) (r) : (s.runStep r).Wordless l := by
  unfold State.runStep
  simp only
  repeat' split
  all_goals simp [h]
@[simp] theorem runLoop_wordless (h : s.Wordless l) (n) : (s.runLoop n).Wordless l := by
  induction n generalizing s with
  | zero => exact h
  | succ n ih =>
    unfold State.runLoop
    split
    · exact ih (runStep_wordless h _)
    · exact h
@[simp] theorem runExamine_wordless (h : s.Wordless l) : s.runExamine.Wordless l :=
  runLoop_wordless h _

/-! ## Corrections and erases -/

@[simp] theorem withdrawCell_wordless (h : s.Wordless l) (c) : (s.withdrawCell c).Wordless l :=
  withdraw_wordless h _
@[simp] theorem takeBack_wordless (h : s.Wordless l) (i c) : (s.takeBack i c).Wordless l := by
  unfold State.takeBack
  repeat' split
  · next p _ =>
    refine setCursor_wordless (mapCell_wordless h (fun d none => ?_) _) _
    cases p <;> exact none
  · exact removeCell_wordless h i
  · exact setCursor_wordless (mapCell_wordless h (by exact fun _ none => none) _) _
@[simp] theorem refuseLift_wordless (h : s.Wordless l) (a c) : (s.refuseLift a c).Wordless l :=
  raiseLiftRefused_wordless (click_wordless h) _ _
@[simp] theorem liftOff_wordless (h : s.Wordless l) (i c) : (s.liftOff i c).Wordless l :=
  setCursor_wordless (mapCell_wordless (appendGroup_wordless h _) (by exact fun _ none => none) _) _
theorem undoReturn_wordless {g} (h : s.Wordless l) (undone : s.undoReturn g = some t) :
    t.Wordless l := by
  unfold State.undoReturn State.withdrawReturn at undone
  repeat' split at undone
  all_goals cases undone
  all_goals simp [h]

/-- Neither way a correction can end makes a word. -/
def Correction.Wordless (l : Option Lookup) : Correction → Prop
  | .acts t => t.Wordless l
  | .waits => True
  | .refused t => t.Wordless l

@[simp] theorem Correction.wordless_acts : (Correction.acts t).Wordless l ↔ t.Wordless l := Iff.rfl
@[simp] theorem Correction.wordless_waits : Correction.waits.Wordless l := trivial
@[simp] theorem Correction.wordless_refused : (Correction.refused t).Wordless l ↔ t.Wordless l :=
  Iff.rfl

theorem deletePending_wordless (h : s.Wordless l) (i) : (s.deletePending i).Wordless l := by
  unfold State.deletePending
  split
  · simp [h]
  · next u replaced =>
    have placed : u.Wordless l := replace_wordless (removeCell_wordless h i) replaced
    split <;> simp [placed]
theorem correctAt_wordless (h : s.Wordless l) (i c) : (s.correctAt i c).Wordless l := by
  unfold State.correctAt
  split
  · exact deletePending_wordless h i
  all_goals repeat' split
  all_goals simp [h]
theorem correctReturned_wordless (h : s.Wordless l) : s.correctReturned.Wordless l := by
  unfold State.correctReturned
  split
  · simp [h]
  · simp only
    split
    · trivial
    · trivial
    · split
      · trivial
      · split
        · next u undone =>
          simp [undoReturn_wordless (withdrawCell_wordless h _) undone]
        · trivial
    all_goals
      split
      · simp [h]
      · split
        · next u undone =>
          exact correctAt_wordless (reopen_wordless (undoReturn_wordless h undone)) _ _
        · trivial
theorem correction_wordless (h : s.Wordless l) : s.correction.Wordless l := by
  unfold State.correction
  split
  · exact correctReturned_wordless h
  · split
    · simp [h]
    · split
      · exact correctAt_wordless h _ _
      · simp [h]
@[simp] theorem eraseLoop_wordless (h : s.Wordless l) (n) : (s.eraseLoop n).Wordless l := by
  induction n generalizing s with
  | zero => exact h
  | succ n ih =>
    unfold State.eraseLoop
    split
    · exact h
    · split
      · exact h
      · have corrected := correction_wordless h
        split <;> rename_i e <;> rw [e] at corrected
        · exact ih corrected
        · exact h
        · exact corrected
@[simp] theorem eraseContinue_wordless (h : s.Wordless l) : s.eraseContinue.Wordless l := by
  unfold State.eraseContinue
  split
  · exact eraseLoop_wordless h _
  · exact h

/-- In OFF the Spelling Unit does nothing (R153). -/
theorem spellingStep_off (off : s.settings.spell = .off) (b : List Cell) (c : Bool) :
    s.spellingStep b c = s := if_pos (by simp [off])
@[simp] theorem textSettle_wordless (h : s.Wordless l) (b c) : (s.textSettle b c).Wordless l := by
  have erased := eraseContinue_wordless h
  unfold State.textSettle
  rw [spellingStep_off erased.1]
  exact runExamine_wordless erased

/-! ## The Print Sequencer -/

@[simp] theorem takeFault_wordless (h : s.Wordless l) (c) : (s.takeFault c).Wordless l := by
  unfold State.takeFault
  simp only
  split <;> exact h
@[simp] theorem fireReport_wordless (h : s.Wordless l) (e) : (s.fireReport e).Wordless l := by
  unfold State.fireReport
  split <;> simp [h]
@[simp] theorem liftDone_wordless (h : s.Wordless l) (i c) : (s.liftDone i c).Wordless l := by
  unfold State.liftDone
  repeat' split
  · simp [h]
  · exact removeCell_wordless h i
  · exact mapCell_wordless h (by exact fun _ none => none) _
@[simp] theorem completionReport_wordless (h : s.Wordless l) (e) :
    (s.completionReport e).Wordless l := by
  unfold State.completionReport
  repeat' split
  all_goals simp [h]
@[simp] theorem completeHead_wordless (h : s.Wordless l) : s.completeHead.Wordless l := by
  unfold State.completeHead
  split
  · exact h
  · exact noteR23_wordless (completionReport_wordless (by exact h) _)
@[simp] theorem tryFire_wordless (h : s.Wordless l) : s.tryFire.Wordless l := by
  unfold State.tryFire
  repeat' split
  · exact fireReport_wordless (by exact h) _
  all_goals exact h
@[simp] theorem positionEnd_wordless (h : s.Wordless l) (e) : (s.positionEnd e).Wordless l := by
  unfold State.positionEnd
  repeat' split
  · exact tryFire_wordless (by exact h)
  · exact completeHead_wordless h
  · exact h
@[simp] theorem moveAcross_wordless (h : s.Wordless l) (e) : (s.moveAcross e).Wordless l := by
  obtain ⟨c, w, q, x, n, o, t, moves, _⟩ := moveAcross_eq e s
  rw [moves]
  exact h
@[simp] theorem startPlaten_wordless (h : s.Wordless l) (x u) : (s.startPlaten x u).Wordless l := by
  unfold State.startPlaten
  split <;> exact h
@[simp] theorem beginMotions_wordless (h : s.Wordless l) (e x) : (s.beginMotions e x).Wordless l := by
  unfold State.beginMotions
  simp only
  repeat' split
  all_goals simp [h]
@[simp] theorem beginPosition_wordless (h : s.Wordless l) (e) : (s.beginPosition e).Wordless l :=
  positionEnd_wordless (beginMotions_wordless (by exact h) _ _) e
@[simp] theorem advanceDone_wordless (h : s.Wordless l) : s.advanceDone.Wordless l := by
  unfold State.advanceDone
  simp only
  split
  · exact h
  · exact completeHead_wordless (by exact h)
@[simp] theorem beginAdvance_wordless (h : s.Wordless l) (e) : (s.beginAdvance e).Wordless l := by
  unfold State.beginAdvance
  simp only
  split
  · exact advanceDone_wordless (by exact h)
  · exact h
@[simp] theorem withdrawHeadLift_wordless (h : s.Wordless l) (e) :
    (s.withdrawHeadLift e).Wordless l := by
  have withdrawn : ((s.withdraw fun x => ((headGroup s.strikes.entries).map (·.id)).contains
      x.id).liftWithdrawnCell e.cell).Wordless l := by
    unfold State.liftWithdrawnCell
    split <;> simp [h]
  exact raiseLiftRefused_wordless withdrawn _ _
@[simp] theorem beginHead_wordless (h : s.Wordless l) (e) : (s.beginHead e).Wordless l := by
  unfold State.beginHead
  repeat' split
  · exact beginAdvance_wordless h e
  · exact withdrawHeadLift_wordless h e
  · exact h
  · exact takeFault_wordless h _
  · exact beginPosition_wordless h e
@[simp] theorem setMech_wordless (h : s.Wordless l) (m) : (s.setMech m).Wordless l := h
@[simp] theorem storeCauses_wordless (h : s.Wordless l) : s.storeCauses.Wordless l := h
@[simp] theorem decideState_wordless (h : s.Wordless l) : s.decideState.Wordless l := by
  unfold State.decideState State.decideClear State.toHalted
  simp only
  repeat' split
  all_goals first | exact h | exact beginHead_wordless (by exact h) _
@[simp] theorem seqLoop_wordless (h : s.Wordless l) (n) : (s.seqLoop n).Wordless l := by
  induction n generalizing s with
  | zero => exact h
  | succ n ih =>
    unfold State.seqLoop
    simp only
    split
    · exact ih (textSettle_wordless (decideState_wordless h) _ _)
    · exact decideState_wordless h
@[simp] theorem sequence_wordless (h : s.Wordless l) : s.sequence.Wordless l := seqLoop_wordless h _

end Sys2Proof.Machine
end

section
/-! Proofs about the records of the Spelling Unit: making them, cancelling them, and the change of the
spelling mode (R143, R145, R146, R153). -/

namespace Sys2Proof.Machine

variable {s t u : State} {r : WordRecord} {c head : Cell} {cells : List Cell} {i n : Nat}

/-! ## SKIPPED words (R143) -/

/-- A digit or a GAP. -/
def Cell.digitOrGap (c : Cell) : Prop :=
  c.kind = .gap ∨ c.kind = .glyph ∧ ∃ b, c.code = some b ∧ 0x30 ≤ b.toNat ∧ b.toNat ≤ 0x39

theorem glyphIs_iff {p : Byte → Bool} : c.glyphIs p = true ↔
    c.kind = .glyph ∧ ∃ b, c.code = some b ∧ p b = true := by
  unfold Cell.glyphIs
  split
  next b kind code => simp [kind, code]
  next other =>
    refine ⟨fun h => absurd h (by simp), fun ⟨kind, b, code, _⟩ => (other b kind code).elim⟩

theorem digitOrGap_iff : (c.glyphIs isDigit || c.kind = .gap) = true ↔ c.digitOrGap := by
  rw [Bool.or_eq_true, glyphIs_iff, decide_eq_true_eq, or_comm]
  simp [Cell.digitOrGap, isDigit]

/-- The four cases in which a record is SKIPPED. -/
def Skips (cells : List Cell) (i n : Nat) : Prop :=
  24 < n ∨ (∃ c, 0 < i ∧ cells[i - 1]? = some c ∧ c.digitOrGap) ∨
    (∃ c, cells[i + n]? = some c ∧ c.digitOrGap) ∨
    n ≤ 5 ∧ ∀ b ∈ runCodes cells (i, n), ¬ (0x61 ≤ b.toNat ∧ b.toNat ≤ 0x7A)

theorem skipped_iff : skipped cells (i, n) = true ↔ Skips cells i n := by
  have before : (cellBefore cells i).toList.any (fun c => c.glyphIs isDigit || c.kind = .gap) = true ↔
      ∃ c, 0 < i ∧ cells[i - 1]? = some c ∧ c.digitOrGap := by
    unfold cellBefore
    by_cases start : i = 0
    · simp [start]
    · rw [if_neg start]
      cases cells[i - 1]? with
      | none => simp
      | some c =>
        simp only [Option.toList_some, List.any_cons, List.any_nil, Bool.or_false, digitOrGap_iff]
        exact ⟨fun h => ⟨c, by omega, rfl, h⟩, fun ⟨_, _, is, h⟩ => Option.some.inj is ▸ h⟩
  have after : (cells[i + n]?).toList.any (fun c => c.glyphIs isDigit || c.kind = .gap) = true ↔
      ∃ c, cells[i + n]? = some c ∧ c.digitOrGap := by
    cases cells[i + n]? with
    | none => simp
    | some c =>
      simp only [Option.toList_some, List.any_cons, List.any_nil, Bool.or_false, digitOrGap_iff]
      exact ⟨fun h => ⟨c, rfl, h⟩, fun ⟨_, is, h⟩ => Option.some.inj is ▸ h⟩
  have short : (decide (n ≤ 5) && (runCodes cells (i, n)).all fun b => !isLower b) = true ↔
      n ≤ 5 ∧ ∀ b ∈ runCodes cells (i, n), ¬ (0x61 ≤ b.toNat ∧ b.toNat ≤ 0x7A) := by
    rw [Bool.and_eq_true, decide_eq_true_eq, List.all_eq_true]
    refine and_congr_right fun _ => forall₂_congr fun b _ => ?_
    rw [Bool.not_eq_true', isLower, ← Bool.not_eq_true, Bool.and_eq_true, decide_eq_true_eq,
      decide_eq_true_eq]
  unfold skipped Skips
  simp only [List.any_append, Bool.or_eq_true (decide _ || _), Bool.or_eq_true (decide _),
    Bool.or_eq_true (List.any _ _), before, after, short, decide_eq_true_eq, or_assoc]
  rfl

/-! ## Recording a run (R143, R146) -/

/-- The letters of a run, folded. -/
def runLetters (cells : List Cell) (run : Nat × Nat) : List Nat :=
  (foldCodes (runCodes cells run)).getD []

/-- The record a run gets, and whether it finds the Lookup Queue full. -/
def State.newRecord (s : State) (run : Nat × Nat) (head : Cell) : WordRecord × Bool :=
  let path := s.firstPath (skipped s.line.cells run) (runLetters s.line.cells run)
  ({ id := s.spell.freeId 256 s.spell.nextId, first := head.id, count := run.2,
     letters := if Config.longestWord < run.2 then none else some (runLetters s.line.cells run),
     state := path.1, accepted := false }, path.2)

/-- Cells of a run with the id of its record. -/
def numberRun (run : Nat × Nat) (id : Nat) (cells : List Cell) : List Cell :=
  cells.mapIdx fun i c => if run.1 ≤ i && i < run.1 + run.2 then { c with wordId := some id } else c

theorem numberRun_get (run : Nat × Nat) (id : Nat) (cells : List Cell) (j : Nat) :
    (numberRun run id cells)[j]? = cells[j]?.map fun c =>
      if run.1 ≤ j ∧ j < run.1 + run.2 then { c with wordId := some id } else c := by
  unfold numberRun
  rw [List.getElem?_mapIdx]
  refine congrArg (fun f => Option.map f cells[j]?) (funext fun c => ?_)
  simp only [Bool.and_eq_true, decide_eq_true_eq]

/-- The state with the record made and the cells numbered, before R146 judges its path further. -/
theorem recordRun_eq (run : Nat × Nat) (is : s.line.cells[run.1]? = some head) : ∃ front back,
    let r := (s.newRecord run head).1
    let made : State := { s with
      line := { s.line with cells := numberRun run r.id s.line.cells }
      spell := { s.spell with table := front ++ r :: back, nextId := (r.id + 1) % 256 } }
    s.recordRun run =
      if (s.newRecord run head).2 then made.raiseSpell 1 r
      else if r.state = .waiting then { made with
        spell := ({ made.spell with lookups :=
          made.spell.lookups ++ [⟨r.id, runLetters s.line.cells run⟩] } : Spelling).startLookup }
      else made := by
  refine ⟨s.spell.table.filter fun q =>
      match cellIndex q.first s.line.cells with | some i => i < run.1 | none => true,
    s.spell.table.filter fun q =>
      !(match cellIndex q.first s.line.cells with | some i => i < run.1 | none => true), ?_⟩
  unfold State.recordRun
  rw [is]
  rfl

/-- The paths of R146's table. -/
theorem firstPath_skip (letters : List Nat) : s.firstPath true letters = (.skipped, false) := rfl
theorem firstPath_known {letters : List Nat} (known : letters ∈ s.retained.words) :
    s.firstPath false letters = (.known, false) := by simp [State.firstPath, known]
section Unknown
variable {letters : List Nat} (unknown : ¬ letters ∈ s.retained.words)
include unknown
theorem firstPath_absent (absent : s.spell.main = .absent) :
    s.firstPath false letters = (.unchecked, false) := by simp [State.firstPath, unknown, absent]
theorem firstPath_full (there : s.spell.main ≠ .absent) (full : 8 ≤ s.spell.lookups.length) :
    s.firstPath false letters = (.unchecked, true) := by
  have full : Config.lookupPlaces ≤ s.spell.lookups.length := full
  simp [State.firstPath, unknown, there, full]
theorem firstPath_waits (there : s.spell.main ≠ .absent) (room : ¬ 8 ≤ s.spell.lookups.length) :
    s.firstPath false letters = (.waiting, false) := by
  have room : ¬ Config.lookupPlaces ≤ s.spell.lookups.length := room
  simp [State.firstPath, unknown, there, room]
end Unknown

/-- A lookup that starts changes states of records alone in the Word Table. -/
theorem startLookup_table (sp : Spelling) : ∃ f : WordRecord → WordRecord,
    (∀ q, f q = q ∨ f q = { q with state := .looking }) ∧
    (∀ e rest, sp.port = .idle → sp.lookup = none → sp.lookups = e :: rest →
      ∀ q, q.id = e.id → f q = { q with state := .looking }) ∧
    (sp.port ≠ .idle → ∀ q, f q = q) ∧ sp.startLookup.table = sp.table.map f := by
  unfold Spelling.startLookup
  split
  next e rest port _ lookups =>
    refine ⟨fun q => if q.id = e.id then { q with state := .looking } else q, fun q => ?_,
      fun e' rest' _ _ is q own => ?_, fun busy => absurd port busy, rfl⟩
    · by_cases own : q.id = e.id <;> simp [own]
    · have same : e = e' := (List.cons.inj (lookups.symm.trans is)).1
      exact if_pos (same ▸ own)
  next other =>
    exact ⟨id, fun q => .inl rfl, fun e rest port lookup is => (other e rest port lookup is).elim,
      fun _ _ => rfl, (List.map_id _).symm⟩
theorem startLookup_begins {sp : Spelling} {e : LookupEntry} {rest : List LookupEntry}
    (idle : sp.port = .idle) (none : sp.lookup = none) (is : sp.lookups = e :: rest) :
    sp.startLookup.lookups = rest ∧
      sp.startLookup.lookup = some ⟨e.id, e.letters, false, .main, 0⟩ := by
  unfold Spelling.startLookup
  rw [idle, none, is]
  exact ⟨rfl, rfl⟩
theorem startLookup_busy {sp : Spelling} (busy : sp.port ≠ .idle) : sp.startLookup = sp := by
  unfold Spelling.startLookup
  split <;> simp_all

/-- What every new record carries, and its cells with it. -/
def State.Records (s t : State) (i n : Nat) (head : Cell) (r : WordRecord) : Prop :=
  r ∈ t.spell.table ∧ r.first = head.id ∧ r.count = n ∧ r.accepted = false ∧
    r.letters = (if 24 < n then none else some (runLetters s.line.cells (i, n))) ∧
    ∀ j, t.line.cells[j]? = s.line.cells[j]?.map fun c =>
      if i ≤ j ∧ j < i + n then { c with wordId := some r.id } else c

/-- The lookups as they were. -/
def State.sameLookups (s t : State) : Prop :=
  t.spell.lookups = s.spell.lookups ∧ t.spell.lookup = s.spell.lookup ∧ t.spell.port = s.spell.port

section Paths
variable (is : s.line.cells[i]? = some head)
include is

/-- A record that takes no lookup. -/
theorem recordRun_settled {st : WordState} (path : s.firstPath (skipped s.line.cells (i, n))
      (runLetters s.line.cells (i, n)) = (st, false)) (settled : st ≠ .waiting) :
    ∃ r, s.Records (s.recordRun (i, n)) i n head r ∧ r.state = st ∧
      s.sameLookups (s.recordRun (i, n)) ∧ (s.recordRun (i, n)).notices = s.notices := by
  obtain ⟨front, back, made⟩ := recordRun_eq (i, n) is
  have state : (s.newRecord (i, n) head).1.state = st := congrArg Prod.fst path
  have room : (s.newRecord (i, n) head).2 = false := congrArg Prod.snd path
  rw [made, if_neg (by simp [room]), if_neg (by rw [state]; exact settled)]
  exact ⟨_, ⟨by simp, rfl, rfl, rfl, rfl, numberRun_get _ _ _⟩, state, ⟨rfl, rfl, rfl⟩, rfl⟩

/-- A record that finds the Lookup Queue full. -/
theorem recordRun_full {st : WordState} (path : s.firstPath (skipped s.line.cells (i, n))
      (runLetters s.line.cells (i, n)) = (st, true)) :
    ∃ r, s.Records (s.recordRun (i, n)) i n head r ∧ r.state = st ∧
      s.sameLookups (s.recordRun (i, n)) ∧ (s.recordRun (i, n)).notices.rows.spell =
        s.notices.rows.spell.occur (0x01 :: byteOf r.id :: (s.recordRun (i, n)).typedCodes r) := by
  obtain ⟨front, back, made⟩ := recordRun_eq (i, n) is
  have state : (s.newRecord (i, n) head).1.state = st := congrArg Prod.fst path
  have full : (s.newRecord (i, n) head).2 = true := congrArg Prod.snd path
  rw [made, if_pos full]
  exact ⟨_, ⟨by simp [State.raiseSpell, State.raise], rfl, rfl, rfl, rfl, numberRun_get _ _ _⟩, state,
    ⟨rfl, rfl, rfl⟩, rfl⟩

/-- A record that takes a place in the Lookup Queue, and leaves for its lookup with the port idle. -/
theorem recordRun_queues (path : s.firstPath (skipped s.line.cells (i, n))
      (runLetters s.line.cells (i, n)) = (.waiting, false)) :
    ∃ r, s.Records (s.recordRun (i, n)) i n head r ∧
      (s.recordRun (i, n)).notices = s.notices ∧
      (s.spell.port ≠ .idle → r.state = .waiting ∧ (s.recordRun (i, n)).spell.lookups =
        s.spell.lookups ++ [⟨r.id, runLetters s.line.cells (i, n)⟩]) ∧
      (s.spell.port = .idle → s.spell.lookup = none → s.spell.lookups = [] →
        r.state = .looking ∧ (s.recordRun (i, n)).spell.lookups = [] ∧
        (s.recordRun (i, n)).spell.lookup =
          some ⟨r.id, runLetters s.line.cells (i, n), false, .main, 0⟩) := by
  obtain ⟨front, back, made⟩ := recordRun_eq (i, n) is
  let r := (s.newRecord (i, n) head).1
  have state : r.state = .waiting := congrArg Prod.fst path
  have room : (s.newRecord (i, n) head).2 = false := congrArg Prod.snd path
  let sp : Spelling := { s.spell with
    table := front ++ r :: back, nextId := (r.id + 1) % 256
    lookups := s.spell.lookups ++ [⟨r.id, runLetters s.line.cells (i, n)⟩] }
  have made : s.recordRun (i, n) = { s with
    line := { s.line with cells := numberRun (i, n) r.id s.line.cells }
    spell := sp.startLookup } := made.trans ((if_neg (by simp [room])).trans (if_pos state))
  obtain ⟨f, changes, looks, waits, table⟩ := startLookup_table sp
  have isIn : f r ∈ (s.recordRun (i, n)).spell.table := by
    rw [made]
    change f r ∈ sp.startLookup.table
    rw [table]
    exact List.mem_map_of_mem (by simp [sp])
  have fields : (f r).first = r.first ∧ (f r).count = r.count ∧ (f r).accepted = r.accepted ∧
      (f r).letters = r.letters ∧ (f r).id = r.id := by
    rcases changes r with same | looking
    · rw [same]
      exact ⟨rfl, rfl, rfl, rfl, rfl⟩
    · rw [looking]
      exact ⟨rfl, rfl, rfl, rfl, rfl⟩
  obtain ⟨first, count, accepted, letters, id⟩ := fields
  refine ⟨f r, ⟨isIn, first, count, accepted, letters, ?_⟩, by rw [made], fun busy => ?_,
    fun idle none empty => ?_⟩
  · rw [made, id]
    exact numberRun_get _ _ _
  · have sound : sp.port ≠ .idle := busy
    rw [waits sound, made]
    refine ⟨state, ?_⟩
    change sp.startLookup.lookups = _
    rw [startLookup_busy sound]
  · have alone : sp.lookups = [⟨r.id, runLetters s.line.cells (i, n)⟩] := by simp [sp, empty]
    obtain ⟨lookups, lookup⟩ := startLookup_begins (sp := sp) idle none alone
    rw [made, looks _ _ idle none alone r rfl]
    exact ⟨rfl, lookups, lookup⟩

end Paths

/-! ## Cancelling (R145) -/

theorem clearWordIds_eq (id : Nat) (cells : List Cell) : clearWordIds [id] cells = cells.map fun c =>
    if c.wordId = some id then { c with wordId := none } else c := by
  refine List.map_congr_left fun c _ => ?_
  cases c.wordId <;> simp

theorem dropWordMessage_slot (id : Nat) (s : State) (m : Message)
    (stands : (s.dropWordMessage id).display.slot = some m) : m.word ≠ some id := by
  unfold State.dropWordMessage at stands
  split at stands
  next m' slot =>
    split at stands
    · cases stands
    next other =>
      obtain rfl : m' = m := Option.some.inj (slot.symm.trans stands)
      exact other
  next none => exact absurd stands (by simp [none])

/-- The state without a record, its cells' ids and its lookup. -/
def State.uncounted (s : State) (r : WordRecord) : State :=
  { s with
    line := { s.line with cells := clearWordIds [r.id] s.line.cells }
    spell := { s.spell with
      table := s.spell.table.filter fun q => !decide (q.id = r.id)
      lookups := s.spell.lookups.filter fun q => !decide (q.id = r.id)
      lookup := s.spell.lookup.map fun l =>
        if l.id = r.id ∧ r.state = .looking then { l with dropped := true } else l } }

theorem cancelRecord_eq (r : WordRecord) (s : State) : ∃ d,
    s.cancelRecord r = { s.uncounted r with display := d } ∧
    (r.state = .unknown → ∀ m, d.slot = some m → m.word ≠ some r.id) := by
  have lookup : (fun l : Lookup => if l.id = r.id && r.state = .looking
      then { l with dropped := true } else l) = fun l =>
        if l.id = r.id ∧ r.state = .looking then { l with dropped := true } else l := by
    funext l
    simp only [Bool.and_eq_true, decide_eq_true_eq]
  have others {α : Type} (id : α → Nat) (l : List α) : (l.filter fun q => id q ≠ r.id) =
      l.filter fun q => !decide (id q = r.id) :=
    List.filter_congr fun q _ => by simp
  have result : s.cancelRecord r = if r.state = .unknown then
      (s.uncounted r).dropWordMessage r.id else s.uncounted r := by
    unfold State.cancelRecord State.uncounted
    rw [lookup, others (α := WordRecord) (·.id), others (α := LookupEntry) (·.id)]
  rw [result]
  split
  next unknown =>
    obtain ⟨d, drops⟩ := dropWordMessage_eq r.id (s.uncounted r)
    refine ⟨d, drops, fun _ m stands => ?_⟩
    have slot := dropWordMessage_slot r.id (s.uncounted r) m
    rw [drops] at slot
    exact slot stands
  next other => exact ⟨_, rfl, fun unknown => absurd unknown other⟩

/-- Cancelling records takes out those with their ids. -/
theorem cancelAll_table (rs : List WordRecord) (s : State) :
    (rs.foldl (fun s r => s.cancelRecord r) s).spell.table =
      s.spell.table.filter fun q => decide (∀ x ∈ rs, q.id ≠ x.id) := by
  induction rs generalizing s with
  | nil => simp
  | cons x rs ih =>
    obtain ⟨d, cancels, _⟩ := cancelRecord_eq x s
    rw [List.foldl_cons, ih, cancels]
    simp only [State.uncounted, List.filter_filter]
    refine List.filter_congr fun q _ => ?_
    rw [Bool.eq_iff_iff]
    simp [and_comm]

theorem cancelBroken_mem (before : List Cell) (distinct : (s.spell.table.map (·.id)).Nodup)
    (member : r ∈ s.spell.table) : r ∈ (s.cancelBroken before).spell.table ↔
      recordStands before s.line.cells r = true := by
  unfold State.cancelBroken
  rw [cancelAll_table, List.mem_filter, decide_eq_true_eq]
  constructor
  · intro ⟨_, apart⟩
    by_contra broken
    exact apart r (List.mem_filter.mpr ⟨member, by simpa using broken⟩) rfl
  · intro stands
    refine ⟨member, fun x isIn same => ?_⟩
    obtain ⟨inTable, broken⟩ := List.mem_filter.mp isIn
    obtain rfl := List.inj_on_of_nodup_map distinct member inTable same
    simp [stands] at broken

/-- What has come beside a record (R145; log entry 44). -/
def CameBeside (before : List Cell) (old new : Option Cell) : Prop :=
  ∃ c, new = some c ∧ (c.kind = .gap ∧ old.map Cell.seen ≠ some c.seen ∨
    c.kind = .glyph ∧ (∃ b, c.code = some b ∧
      (isLetter b = true ∨ b = 0x27 ∨ 0x30 ≤ b.toNat ∧ b.toNat ≤ 0x39)) ∧
      ∀ d ∈ before, d.seen ≠ c.seen)

theorem cameBeside_iff (before : List Cell) (old new : Option Cell) :
    cameBeside before old new = true ↔ CameBeside before old new := by
  unfold cameBeside CameBeside
  cases new with
  | none => simp
  | some c =>
    have disturbs : c.disturbs = true ↔ c.kind = .gap ∨ c.kind = .glyph ∧ ∃ b, c.code = some b ∧
        (isLetter b = true ∨ b = 0x27 ∨ 0x30 ≤ b.toNat ∧ b.toNat ≤ 0x39) := by
      unfold Cell.disturbs
      rw [Bool.or_eq_true, glyphIs_iff, decide_eq_true_eq]
      simp [isApostrophe, isDigit, or_assoc]
    have fresh : (!(before.map Cell.seen).contains c.seen) = true ↔ ∀ d ∈ before, d.seen ≠ c.seen := by
      simp
    simp only [Bool.and_eq_true, disturbs]
    by_cases gap : c.kind = .gap
    · simp [gap, bne_iff_ne]
    · rw [if_neg gap, fresh]
      simp [gap, and_assoc]

theorem recordStands_iff {before after : List Cell} {j : Nat} (was : cellIndex r.first before = some i)
    (is : cellIndex r.first after = some j) : recordStands before after r = true ↔
      (∀ k, k < r.count → before[i + k]?.map Cell.seen = after[j + k]?.map Cell.seen) ∧
        ¬ CameBeside before (cellBefore before i) (cellBefore after j) ∧
        ¬ CameBeside before before[i + r.count]? after[j + r.count]? := by
  have get (cells : List Cell) (i k : Nat) : (((cells.drop i).take r.count).map Cell.seen)[k]? =
      if k < r.count then cells[i + k]?.map Cell.seen else none := by
    rw [List.getElem?_map, List.getElem?_take]
    split
    · rw [List.getElem?_drop]
    · rfl
  have together : ((before.drop i).take r.count).map Cell.seen =
      ((after.drop j).take r.count).map Cell.seen ↔
        ∀ k, k < r.count → before[i + k]?.map Cell.seen = after[j + k]?.map Cell.seen := by
    rw [List.ext_getElem?_iff]
    refine forall_congr' fun k => ?_
    rw [get, get]
    by_cases inside : k < r.count <;> simp [inside]
  unfold recordStands
  rw [was, is]
  simp only [Bool.and_eq_true, decide_eq_true_eq, together, Bool.not_eq_true', ← Bool.not_eq_true,
    cameBeside_iff, and_assoc]

theorem recordStands_gone {before after : List Cell} (gone : cellIndex r.first after = none) :
    recordStands before after r = false := by
  unfold recordStands
  rw [gone]
  cases cellIndex r.first before <;> rfl

/-! ## Recording every run (R143) -/

theorem runsFrom_inside {st : Nat} {cur : Option (Nat × Nat)} {apos : Bool} (cells : List Cell)
    (begun : ∀ run ∈ cur, run.1 < st) :
    ∀ run ∈ runsFrom st cur apos cells, run.1 < st + cells.length := by
  induction cells generalizing st cur apos with
  | nil => simpa [runsFrom] using begun
  | cons c cells ih =>
    have further : ∀ run ∈ cur, run.1 < st + (c :: cells).length := fun run is =>
      (begun run is).trans_le (Nat.le_add_right ..)
    intro run member
    have rest {cur' : Option (Nat × Nat)} {apos' : Bool} (begun : ∀ run ∈ cur', run.1 < st + 1)
        (isIn : run ∈ runsFrom (st + 1) cur' apos' cells) : run.1 < st + (c :: cells).length := by
      have inside := ih begun run isIn
      simp only [List.length_cons]
      omega
    unfold runsFrom at member
    split at member
    · split at member
      · exact rest (by simp) member
      · next first count =>
        have before := begun (first, count) rfl
        refine rest (fun run is => ?_) member
        obtain rfl := Option.some.inj is
        exact before.trans (Nat.lt_succ_self _)
    · split at member
      · exact rest (fun run is => (begun run is).trans (Nat.lt_succ_self _)) member
      · rcases List.mem_append.mp member with isCur | isLater
        · exact further run (Option.mem_toList.mp isCur)
        · exact rest (by simp) isLater

theorem wordRuns_inside {run : Nat × Nat} (member : run ∈ wordRuns cells) : run.1 < cells.length := by
  simpa using runsFrom_inside cells (by simp) run member

theorem covered_iff {run : Nat × Nat} : s.covered run = true ↔ ∃ j c, run.1 ≤ j ∧
    j < run.1 + run.2 ∧ s.line.cells[j]? = some c ∧ c.wordId.isSome = true := by
  unfold State.covered
  rw [List.any_eq_true]
  constructor
  · rintro ⟨c, member, named⟩
    obtain ⟨k, is⟩ := List.mem_iff_getElem?.mp member
    rw [List.getElem?_take] at is
    split at is
    next inside =>
      rw [List.getElem?_drop] at is
      exact ⟨run.1 + k, c, by omega, by omega, is, named⟩
    next => cases is
  · rintro ⟨j, c, first, last, is, named⟩
    refine ⟨c, List.mem_iff_getElem?.mpr ⟨j - run.1, ?_⟩, named⟩
    rw [List.getElem?_take, if_pos (by omega), List.getElem?_drop, Nat.add_sub_cancel' first, is]

/-- A run is recorded on its cells alone. -/
theorem recordRun_cells (run : Nat × Nat) (is : s.line.cells[run.1]? = some head) :
    ∃ id, (s.recordRun run).line.cells = numberRun run id s.line.cells := by
  obtain ⟨front, back, made⟩ := recordRun_eq run is
  refine ⟨(s.newRecord run head).1.id, ?_⟩
  rw [made]
  repeat' split
  all_goals rfl
theorem recordRun_length (run : Nat × Nat) :
    (s.recordRun run).line.cells.length = s.line.cells.length := by
  cases is : s.line.cells[run.1]? with
  | none => simp [State.recordRun, is]
  | some head =>
    obtain ⟨id, cells⟩ := recordRun_cells run is
    simp [cells, numberRun]

theorem recordRun_covers {run : Nat × Nat} (inside : run.1 < s.line.cells.length) (some : 1 ≤ run.2) :
    (s.recordRun run).covered run = true := by
  obtain ⟨id, cells⟩ := recordRun_cells run (List.getElem?_eq_getElem inside)
  have get := numberRun_get run id s.line.cells run.1
  rw [← cells, List.getElem?_eq_getElem inside, Option.map_some] at get
  refine covered_iff.mpr ⟨run.1, _, Nat.le_refl _, by omega, get, ?_⟩
  rw [if_pos (by omega)]
  rfl
theorem recordRun_keeps {run other : Nat × Nat} (covered : s.covered other = true) :
    (s.recordRun run).covered other = true := by
  cases is : s.line.cells[run.1]? with
  | none => simpa [State.recordRun, is] using covered
  | some head =>
    obtain ⟨id, cells⟩ := recordRun_cells run is
    obtain ⟨j, c, first, last, there, named⟩ := covered_iff.mp covered
    have get := numberRun_get run id s.line.cells j
    rw [← cells, there, Option.map_some] at get
    refine covered_iff.mpr ⟨j, _, first, last, get, ?_⟩
    split
    · rfl
    · exact named

theorem recordAll_covers {runs : List (Nat × Nat)} (inside : ∀ run ∈ runs, 1 ≤ run.2 ∧
    run.1 < s.line.cells.length) {run : Nat × Nat} (is : s.covered run = true ∨ run ∈ runs) :
    (runs.foldl (fun s run => s.recordRun run) s).covered run = true := by
  induction runs generalizing s with
  | nil => simpa using is
  | cons first runs ih =>
    obtain ⟨⟨some, here⟩, others⟩ := List.forall_mem_cons.mp inside
    refine ih (fun run member => ?_) ?_
    · rw [recordRun_length]
      exact others run member
    · rcases is with covered | member
      · exact .inl (recordRun_keeps covered)
      · rcases List.mem_cons.mp member with rfl | later
        · exact .inl (recordRun_covers here some)
        · exact .inr later

/-! ## The change of the spelling mode (R153) -/

theorem render_slot (s : State) : s.render.display.slot = s.display.slot := by
  unfold State.render Display.submit
  simp only
  split <;> rfl
theorem finish_slotMessage (u o : State) : (u.finish o).display.slot = u.display.slot := by
  have renders : (u.renderIf o).display.slot = u.display.slot := by
    unfold State.renderIf
    repeat' split
    · exact render_slot _
    · exact render_slot _
    · rfl
  have sends (v : State) : v.transmit.display = v.display := by
    unfold State.transmit State.chooseFrame
    repeat' split
    all_goals rfl
  exact (congrArg Display.slot (sends _)).trans renders

/-- A discarded record leaves nothing behind. -/
theorem discardRecords_wordless (off : s.settings.spell = .off) :
    s.discardRecords.Wordless s.spell.lookup := by
  let v : State := { s with
    line := { s.line with cells := s.line.cells.map fun c => { c with wordId := none } }
    spell := { s.spell with table := [], lookups := [], lookup := dropped s.spell.lookup } }
  have cells : ∀ c ∈ v.line.cells, c.wordId = none := by
    intro c member
    obtain ⟨d, _, rfl⟩ := List.mem_map.mp member
    rfl
  have result : s.discardRecords = v.dropAnyWordMessage := rfl
  rw [result]
  unfold State.dropAnyWordMessage
  split
  next m slot =>
    split
    · exact ⟨off, rfl, rfl, rfl, cells, fun m is => by cases is⟩
    next plain =>
      refine ⟨off, rfl, rfl, rfl, cells, fun m' is => ?_⟩
      obtain rfl := Option.some.inj (slot.symm.trans is)
      simpa using plain
  next none => exact ⟨off, rfl, rfl, rfl, cells, fun m is => absurd (none.symm.trans is) (by simp)⟩

/-- The state a change of the spelling mode leaves. -/
theorem spellModeChanged_eq (old : SpellMode) (s : State) : s.spellModeChanged old =
    if s.settings.spell = .off ∧ old ≠ .off then s.discardRecords
    else if s.settings.spell ≠ .off ∧ old = .off then s.recordAll
    else s := by
  unfold State.spellModeChanged
  cases old <;> cases s.settings.spell <;> simp

theorem spellModeChanged_kept (old : SpellMode) (s : State) :
    (s.spellModeChanged old).kept = s.kept := by
  have discards : s.discardRecords.kept = s.kept := by
    unfold State.discardRecords State.dropAnyWordMessage
    repeat' split
    all_goals rfl
  rw [spellModeChanged_eq]
  repeat' split
  · exact discards
  · exact recordAll_kept
  · rfl

/-- Settles O12: a record as it is made and as it is cancelled, and the three changes of the mode. -/
theorem spellModeRequestActs : Obligations.SpellModeRequestActs := by
  refine ⟨fun s i n head is => ?_, fun s r => ?_, fun s before r distinct member => ?_,
    fun s num b m taken mech arg => ?_⟩
  · intro cells codes letters digitOrGap skip known full t
    have skips : skipped cells (i, n) = true ↔ skip := skipped_iff
    by_cases skipping : skip
    · have path : s.firstPath (skipped s.line.cells (i, n)) (runLetters s.line.cells (i, n)) =
          (.skipped, false) := by
        rw [show skipped s.line.cells (i, n) = true from skips.mpr skipping]
        exact firstPath_skip _
      obtain ⟨r, ⟨isIn, first, count, accepted, letters, cells⟩, state, lookups, notices⟩ :=
        recordRun_settled is path (by simp)
      exact ⟨r, isIn, first, count, accepted, letters, cells, fun _ => state,
        fun not => absurd skipping not, fun not => absurd skipping not,
        fun not => absurd skipping not, fun _ => lookups, fun _ => notices,
        fun not => absurd skipping not⟩
    · have unskipped : skipped s.line.cells (i, n) = false := by
        rw [← Bool.not_eq_true]
        exact mt skips.mp skipping
      by_cases isKnown : known
      · obtain ⟨r, ⟨isIn, first, count, accepted, letters, cells⟩, state, lookups, notices⟩ :=
          recordRun_settled is (by rw [unskipped]; exact firstPath_known isKnown) (by simp)
        exact ⟨r, isIn, first, count, accepted, letters, cells, fun skips => absurd skips skipping,
          fun _ _ => state, fun _ not => absurd isKnown not, fun _ not => absurd isKnown not,
          fun _ => lookups, fun _ => notices, fun _ not => absurd isKnown not⟩
      by_cases absent : s.spell.main = .absent
      · obtain ⟨r, ⟨isIn, first, count, accepted, letters, cells⟩, state, lookups, notices⟩ :=
          recordRun_settled is (by rw [unskipped]; exact firstPath_absent isKnown absent) (by simp)
        exact ⟨r, isIn, first, count, accepted, letters, cells, fun skips => absurd skips skipping,
          fun _ knows => absurd knows isKnown, fun _ _ _ => state, fun _ _ there => absurd absent there,
          fun _ => lookups, fun _ => notices, fun _ _ there => absurd absent there⟩
      by_cases isFull : full
      · obtain ⟨r, ⟨isIn, first, count, accepted, letters, cells⟩, state, lookups, notices⟩ :=
          recordRun_full is (by rw [unskipped]; exact firstPath_full isKnown absent isFull)
        refine ⟨r, isIn, first, count, accepted, letters, cells, fun skips => absurd skips skipping,
          fun _ knows => absurd knows isKnown, fun _ _ gone => absurd gone absent,
          fun _ _ _ _ => ⟨state, notices⟩, fun _ => lookups, fun settled => ?_,
          fun _ _ _ room => absurd isFull room⟩
        rcases settled with skips | knows | gone | room
        · exact absurd skips skipping
        · exact absurd knows isKnown
        · exact absurd gone absent
        · exact absurd isFull room
      · obtain ⟨r, ⟨isIn, first, count, accepted, letters, cells⟩, notices, waits, looks⟩ :=
          recordRun_queues is (by rw [unskipped]; exact firstPath_waits isKnown absent isFull)
        refine ⟨r, isIn, first, count, accepted, letters, cells, fun skips => absurd skips skipping,
          fun _ knows => absurd knows isKnown, fun _ _ gone => absurd gone absent,
          fun _ _ _ fills => absurd fills isFull, fun settled => ?_, fun _ => notices,
          fun _ _ _ _ => ⟨waits, looks⟩⟩
        rcases settled with skips | knows | gone | fills
        · exact absurd skips skipping
        · exact absurd knows isKnown
        · exact absurd gone absent
        · exact absurd fills isFull
  · intro t
    obtain ⟨d, cancels, message⟩ := cancelRecord_eq r s
    change (s.cancelRecord r).spell.table = _ ∧ (s.cancelRecord r).spell.lookups = _ ∧
      (s.cancelRecord r).line.cells = _ ∧ (s.cancelRecord r).spell.lookup = _ ∧
      (r.state = .unknown → ∀ m, (s.cancelRecord r).display.slot = some m → _)
    rw [cancels]
    exact ⟨rfl, rfl, clearWordIds_eq _ _, rfl, message⟩
  · intro after seen came stays
    have kept : stays ↔ recordStands before after r = true := cancelBroken_mem before distinct member
    refine ⟨fun gone => ?_, fun i j was is => kept.trans (recordStands_iff was is)⟩
    rw [kept, recordStands_gone gone]
    simp
  · intro was v u
    have off : v.settings.spell = m := rfl
    have changed : u = v.spellModeChanged was := by
      rw [spellModeChanged_eq, off]
    have kept : u.runExamine.sequence.kept = v.kept := by
      rw [sequence_kept, runExamine_kept, changed, spellModeChanged_kept]
    obtain ⟨_, _, link, keys, settings, retained, _⟩ := Kept.fields kept
    have acts : State.doSetSpellMode [b] (s.onRequest num 0x09 [b]) =
        u.runExamine.sequence.answerDone := by
      rw [changed]
      simp only [State.doSetSpellMode, arg]
      rfl
    obtain ⟨ends, answered⟩ := request_answered (c := .setSpellMode num [b]) taken rfl
      ((onRequest_gateAdjust mech).trans acts) (by rw [link]; rfl) (by rw [link]; rfl)
    refine ⟨_, ends, rfl, answered, setBy_answering.mpr ⟨settings, retained⟩, ?_, fun isOff wasOn => ?_,
      fun isOn wasOff run member long closed => ?_, fun isOn wasOn => ?_⟩
    · rw [answering_keys, keys]
      rfl
    · have discards : u = v.discardRecords := if_pos ⟨isOff, wasOn⟩
      have wordless : u.runExamine.sequence.Wordless v.spell.lookup := by
        rw [discards]
        exact sequence_wordless (runExamine_wordless (discardRecords_wordless (off.trans isOff)))
      obtain ⟨_, table, lookups, lookup, cells, message⟩ := wordless
      rw [answering_spell, answering_line]
      refine ⟨table, lookups, lookup, cells, fun w stands => message w ?_⟩
      unfold State.answering at stands
      rw [finish_slotMessage] at stands
      exact stands
    · have records : u = v.recordAll :=
        (if_neg fun both => isOn both.1).trans (if_pos ⟨isOn, wasOff⟩)
      rw [records]
      unfold State.recordAll
      refine recordAll_covers (fun run listed => ?_) ?_
      · obtain ⟨isRun, chosen⟩ := List.mem_filter.mp listed
        simp only [Bool.and_eq_true, decide_eq_true_eq] at chosen
        obtain ⟨⟨two, _⟩, _⟩ := chosen
        exact ⟨by omega, wordRuns_inside isRun⟩
      · cases covered : v.covered run with
        | true => exact .inl rfl
        | false =>
          refine .inr (List.mem_filter.mpr ⟨member, ?_⟩)
          have closed : openToken v.line.cells v.spell.endClosed run.1 = false := closed
          simp [covered, closed, long]
    · have stands : u = v := (if_neg fun both => isOn both.1).trans (if_neg fun both => wasOn both.2)
      rw [stands]
      exact ⟨rfl, rfl⟩

end Sys2Proof.Machine
end

section
/-! Proofs about the Display Controller: the window, the renders, and the bytes of a frame (R160 to R168). -/

namespace Sys2Proof.Machine

variable {s t : State}

/-! ## Texts (R163, R165) -/

theorem ascii_append (a b : String) : ascii (a ++ b) = ascii a ++ ascii b := by
  simp [ascii]
theorem ascii_empty : ascii "" = [] := rfl

/-- The labels of the settings template, with the blank before them (R165). -/
def EffPitch.label : EffPitch → String
  | .ps => " PS" | .ten => " P10" | .twelve => " P12" | .fifteen => " P15"
def Spacing.label : Spacing → String
  | .s8 => " S1" | .s12 => " S1.5" | .s16 => " S2" | .s20 => " S2.5" | .s24 => " S3"
def TypingMode.label : TypingMode → String
  | .direct => " DIRECT" | .word => " WORD" | .line => " LINE"
def Format.label : Format → String
  | .normal => "" | .center => "/C" | .flushRight => "/F" | .justify => "/J"
def SpellMode.label : SpellMode → String
  | .off => " OFF" | .alert => " ALERT" | .hold => " HOLD"

theorem pitchText_spaced (p : EffPitch) : ascii " " ++ pitchText p = ascii p.label := by
  cases p <;> exact (ascii_append ..).symm
theorem spacingText_spaced (p : Spacing) : ascii " " ++ spacingText p = ascii p.label := by
  cases p <;> exact (ascii_append ..).symm
theorem modeText_spaced (m : TypingMode) : ascii " " ++ modeText m = ascii m.label := by
  cases m <;> exact (ascii_append ..).symm
theorem spellText_spaced (m : SpellMode) : ascii " " ++ spellText m = ascii m.label := by
  cases m <;> exact (ascii_append ..).symm
theorem formatText_label (f : Format) : formatText f = ascii f.label := by cases f <;> rfl

theorem settingsText_eq (s : State) : s.settingsText =
    ascii "L" ++ decimal s.settings.left ++ ascii " R" ++ decimal s.settings.right ++
      ascii s.pitch.label ++ ascii " I" ++ decimal s.settings.impression ++
      ascii s.settings.spacing.label ++ ascii s.settings.mode.label ++ ascii s.line.format.label ++
      ascii s.settings.spell.label := by
  unfold State.settingsText
  rw [← pitchText_spaced, ← spacingText_spaced, ← modeText_spaced, ← spellText_spaced,
    ← formatText_label]
  simp only [List.append_assoc]

/-- A fault code, and a halt cause, as row 2 shows them (R163). -/
def faultLabel : Option FaultCode → String
  | none => "" | some .carrierStall => "CARRIER STALL" | some .carrierHome => "CARRIER HOME"
  | some .wheelHome => "WHEEL HOME" | some .wheelId => "WHEEL ID" | some .hammer => "HAMMER"
def HaltCause.label : HaltCause → String
  | .coverOpen => "COVER OPEN" | .paperOut => "PAPER OUT"
  | .ribbonAbsent => "RIBBON ABSENT" | .ribbonEnd => "RIBBON END"
  | .noWheel => "NO WHEEL" | .tapeAbsent => "TAPE ABSENT" | .tapeEnd => "TAPE END"

theorem faultText_label (f : Option FaultCode) : faultText f = ascii (faultLabel f) := by
  cases f with
  | none => rfl
  | some f => cases f <;> rfl
theorem causeText_label (k : HaltCause) : causeText k = ascii k.label := by cases k <;> rfl
theorem haltText_eq (ks : List HaltCause) : haltText ks = ascii "HALT " ++ match ks with
    | [] => []
    | k :: ks => ascii k.label ++ (if ks = [] then [] else ascii " +" ++ decimal ks.length) := by
  cases ks with
  | nil => exact (List.append_nil _).symm
  | cons k ks =>
    have text : haltText (k :: ks) = ascii "HALT " ++ causeText k ++
        (if ks.isEmpty then [] else ascii " +" ++ decimal ks.length) := rfl
    rw [text, causeText_label, List.append_assoc]
    cases ks <;> rfl

/-- A trim with its sign (R165). -/
def signed (i : Int) : List Byte := ascii (if i < 0 then "-" else "+") ++ decimal i.natAbs
theorem signedText_eq (i : Int) : signedText i = signed i := by
  unfold signedText signed
  split <;> rfl

/-- The held word that row 2 shows: none where the mechanism's state takes the row (R163). -/
def State.heldShown (s : State) : Option WordRecord :=
  match s.seq.mech with
  | .fault => none | .halted => none | .starting => none | .adjust => none
  | _ => s.heldWord

/-- The text of row 2 by R163's table. -/
def State.rowText (s : State) : List Byte :=
  match s.seq.mech with
  | .fault => ascii "FAULT " ++ ascii (faultLabel s.seq.fault)
  | .halted => ascii "HALT " ++ (match s.seq.causes with
    | [] => []
    | k :: ks => ascii k.label ++ (if ks = [] then [] else ascii " +" ++ decimal ks.length))
  | .starting => ascii "STARTING"
  | .adjust => ascii "ADJUST IMP " ++ signed s.retained.impression ++ ascii " PHASE " ++
      signed s.retained.wheelPhase ++ ascii " OFFSET " ++ signed s.retained.printOffset
  | _ => match s.heldShown, s.display.slot with
    | some r, _ => ascii "? " ++ s.typedCodes r
    | none, some m => m.text
    | none, none => ascii "L" ++ decimal s.settings.left ++ ascii " R" ++ decimal s.settings.right ++
        ascii s.pitch.label ++ ascii " I" ++ decimal s.settings.impression ++
        ascii s.settings.spacing.label ++ ascii s.settings.mode.label ++
        ascii s.line.format.label ++ ascii s.settings.spell.label

/-- Row 2 where the mechanism's state does not take it. -/
theorem row2_quiet (held : Option WordRecord) (s : State) :
    (match held with
      | some r => (s.wordText r, (s.typedCodes r).length)
      | none => match s.display.slot with
        | some m => (m.text, 0)
        | none => (s.settingsText, 0)) =
    ((match held, s.display.slot with
      | some r, _ => ascii "? " ++ s.typedCodes r
      | none, some m => m.text
      | none, none => ascii "L" ++ decimal s.settings.left ++ ascii " R" ++
          decimal s.settings.right ++ ascii s.pitch.label ++ ascii " I" ++
          decimal s.settings.impression ++ ascii s.settings.spacing.label ++
          ascii s.settings.mode.label ++ ascii s.line.format.label ++ ascii s.settings.spell.label),
      match held with | some r => (s.typedCodes r).length | none => 0) := by
  cases held with
  | some r => rfl
  | none =>
    cases s.display.slot with
    | some m => rfl
    | none => exact congrArg (·, 0) (settingsText_eq s)

theorem row2_eq (s : State) : s.row2 = (s.rowText,
    match s.heldShown with | some r => (s.typedCodes r).length | none => 0) := by
  unfold State.row2 State.rowText State.heldShown
  cases s.seq.mech
  case fault => exact congrArg (ascii "FAULT " ++ ·, 0) (faultText_label _)
  case halted => exact congrArg (·, 0) (haltText_eq _)
  case starting => rfl
  case adjust =>
    unfold State.adjustText
    simp only [signedText_eq]
  all_goals exact row2_quiet s.heldWord s

/-! ## Decimal (R165) -/

/-- The number that some digits stand for. -/
def digitsValue (v : Nat) (bs : List Byte) : Nat := bs.foldl (fun v b => 10 * v + (b.toNat - 0x30)) v

theorem digit_toNat {d : Nat} (one : d < 10) : (byteOf (0x30 + d)).toNat = 0x30 + d := by
  rw [byteOf_toNat]
  omega

/-- With fuel for its digits a number is written in decimal, without a leading zero. -/
theorem digitsFuel_decimal (f : Nat) {n : Nat} (fits : n < 10 ^ f) :
    digitsValue 0 (digitsFuel f n) = n ∧
      (∀ b ∈ digitsFuel f n, 0x30 ≤ b.toNat ∧ b.toNat ≤ 0x39) ∧
      (1 ≤ n → (digitsFuel f n).head? ≠ some 0x30) := by
  induction f generalizing n with
  | zero =>
    have zero : n = 0 := by simpa using fits
    subst zero
    simp [digitsFuel, digitsValue]
  | succ f ih =>
    unfold digitsFuel
    by_cases one : n < 10
    · rw [if_pos one]
      have digit := digit_toNat one
      refine ⟨by simp [digitsValue, digit], fun b member => ?_, fun positive is => ?_⟩
      · obtain rfl := List.mem_singleton.mp member
        omega
      · have zero : byteOf (0x30 + n) = 0x30 := by simpa using is
        rw [zero] at digit
        have : (0x30 : Byte).toNat = 0x30 := rfl
        omega
    · rw [if_neg one]
      have smaller : n / 10 < 10 ^ f := Nat.div_lt_of_lt_mul (by rw [← Nat.pow_succ']; exact fits)
      obtain ⟨value, digits, head⟩ := ih smaller
      have digit := digit_toNat (Nat.mod_lt n (by decide : 0 < 10))
      refine ⟨?_, fun b member => ?_, fun _ is => ?_⟩
      · unfold digitsValue at value ⊢
        rw [List.foldl_append, value]
        simp only [List.foldl_cons, List.foldl_nil, digit]
        omega
      · rcases List.mem_append.mp member with front | last
        · exact digits b front
        · obtain rfl := List.mem_singleton.mp last
          have := Nat.mod_lt n (by decide : 0 < 10)
          omega
      · cases front : digitsFuel f (n / 10) with
        | nil =>
          rw [front] at value
          have : n / 10 = 0 := value.symm
          omega
        | cons b bs =>
          refine head (by omega) ?_
          rw [front] at is ⊢
          exact is

/-! ## Marks (R185) -/

theorem markByte_bits (a b c d e f g h : Bool) :
    (List.range 8).map (fun j => (markByte [a, b, c, d, e, f, g, h]).getLsbD (7 - j)) =
      [a, b, c, d, e, f, g, h] := by
  revert a b c d e f g h
  decide

theorem markByte_get {bs : List Bool} (eight : bs.length = 8) {k : Nat} (inside : k < 8) :
    some ((markByte bs).getLsbD (7 - k)) = bs[k]? := by
  match bs, eight with
  | [a, b, c, d, e, f, g, h], _ =>
    have bits := congrArg (·[k]?) (markByte_bits a b c d e f g h)
    simp only [List.getElem?_map, List.getElem?_range inside, Option.map_some] at bits
    exact bits

/-- The marks of forty columns, five bytes of eight. -/
theorem markBytes_get {bs : List Bool} (forty : bs.length = 40) {j : Nat} (inside : j < 40) :
    some (((markBytes bs).getD (j / 8) 0).getLsbD (7 - j % 8)) = bs[j]? := by
  have byte (q : Nat) (five : q < 5) :
      (markBytes bs).getD q 0 = markByte ((bs.drop (8 * q)).take 8) := by
    match q, five with
    | 0, _ | 1, _ | 2, _ | 3, _ | 4, _ => rfl
  rw [byte _ (by omega), markByte_get (by simp [forty]; omega) (Nat.mod_lt _ (by decide)),
    List.getElem?_take, if_pos (Nat.mod_lt _ (by decide)), List.getElem?_drop, Nat.div_add_mod]

/-! ## The window and the renders (R160, R162, R167) -/

theorem windowOrigin_sound (w c : Nat) : windowOrigin w c ≤ c ∧ c ≤ windowOrigin w c + 35 := by
  unfold windowOrigin
  split
  · omega
  · split <;> omega

theorem submit_eq (d : Display) (f : List Byte) : ∃ c g n,
    d.submit f = { d with current := c, next := f, go := g, sending := n } := by
  unfold Display.submit
  split <;> exact ⟨_, _, _, rfl⟩

/-- A render brings the window to the cursor and hands the frame over. -/
theorem render_eq (s : State) : ∃ c g n, s.render = { s with display := { s.display with
    origin := windowOrigin s.display.origin s.line.cursor
    next := s.render.frame
    current := c, go := g, sending := n, told := false, cursorTold := false } } := by
  let v : State := { s with display := { s.display with
    origin := windowOrigin s.display.origin s.line.cursor } }
  obtain ⟨c, g, n, submits⟩ := submit_eq v.display v.frame
  have rendered : s.render = { v with display := { v.display.submit v.frame with
    told := false, cursorTold := false } } := rfl
  have frame : s.render.frame = v.frame := by
    rw [rendered, submits]
    rfl
  rw [frame, rendered, submits]
  exact ⟨c, g, n, rfl⟩

/-- What every render brings. -/
theorem render_shows (s : State) : s.render.WindowSound ∧ s.render.display.next = s.render.frame ∧
    s.render.line = s.line ∧ s.render.display.phaseOn = s.display.phaseOn ∧
    s.render.display.blinkTimer = s.display.blinkTimer ∧ s.render.display.slot = s.display.slot ∧
    s.render.display.slotTimer = s.display.slotTimer ∧ s.sameWork s.render ∧
    s.sameMechanism s.render ∧ s.sameSettings s.render := by
  obtain ⟨c, g, n, rendered⟩ := render_eq s
  have next : s.render.display.next = s.render.frame := congrArg (·.display.next) rendered
  refine ⟨?_, next, ?_⟩
  · rw [rendered]
    exact windowOrigin_sound _ _
  · rw [rendered]
    exact ⟨rfl, rfl, rfl, rfl, rfl, ⟨rfl, rfl, rfl, rfl, rfl, rfl, rfl⟩,
      ⟨rfl, rfl, rfl, rfl, rfl, rfl, rfl⟩, rfl, rfl⟩

/-- An event that told the Display Controller of a change ends in a render. -/
theorem renderIf_shows {old : State} (told : s.display.told = true ∨ s.display.cursorTold = true) :
    (s.renderIf old).WindowSound ∧ (s.renderIf old).display.next = (s.renderIf old).frame ∧
      (s.renderIf old).line = s.line ∧ (s.display.cursorTold = true →
        (s.renderIf old).display.phaseOn = true ∧ (s.renderIf old).display.blinkTimer = 250) := by
  have changed : old.displayChanged s = true := by
    unfold State.displayChanged
    rcases told with told | told <;> simp [told]
  unfold State.renderIf
  rw [if_pos changed]
  by_cases moved : s.display.cursorTold = true
  · rw [if_pos moved]
    obtain ⟨window, next, line, phase, timer, _⟩ := render_shows s.steadyBlink
    exact ⟨window, next, line, fun _ => ⟨phase, timer⟩⟩
  · rw [if_neg moved]
    obtain ⟨window, next, line, _⟩ := render_shows s
    exact ⟨window, next, line, fun told => absurd told moved⟩

/-! ## The bytes of a frame (R161 to R166, R185) -/

theorem getElem?_middle {α : Type} {a b : List α} (c : List α) {k : Nat} (inside : k < b.length) :
    (a ++ (b ++ c))[a.length + k]? = b[k]? := by
  rw [List.getElem?_append_right (Nat.le_add_right ..), Nat.add_sub_cancel_left,
    List.getElem?_append_left inside]

theorem row1_length (l : Line) (w : Nat) (on : Bool) : (l.row1 w on).length = 40 := by
  simp [Line.row1]
theorem fill40_length (text : List Byte) : (fill40 text).length = 40 := by
  simp [fill40]
theorem marks1_length (l : Line) (w : Nat) : (l.marks1 w).length = 40 := by simp [Line.marks1]
theorem marks2_length (n : Nat) : (marks2 n).length = 40 := by simp [marks2]
theorem markBytes_length (bs : List Bool) : (markBytes bs).length = 5 := rfl

/-- The parts of a frame: the command, the rows, their marks, and the lamps. -/
structure FrameParts (f row1 row2 : List Byte) (marks1 marks2 : List Bool) (lamps : Byte) : Prop where
  length : f.length = 92
  command : f[0]? = some 0xD0
  first : ∀ j, j < 40 → f[1 + j]? = row1[j]?
  second : (f.drop 41).take 40 = row2
  firstMarks : ∀ q, q < 5 → f.getD (81 + q) 0 = (markBytes marks1).getD q 0
  secondMarks : ∀ q, q < 5 → f.getD (86 + q) 0 = (markBytes marks2).getD q 0
  lamps : f.getD 91 0 = lamps

theorem frameParts_of {f row1 row2 : List Byte} {marks1 marks2 : List Bool} {lamps : Byte}
    (parts : f = [0xD0] ++ (row1 ++ (row2 ++ (markBytes marks1 ++ (markBytes marks2 ++ [lamps])))))
    (forty : row1.length = 40) (forty' : row2.length = 40) :
    FrameParts f row1 row2 marks1 marks2 lamps := by
  have get {a b c : List Byte} (parts : f = a ++ (b ++ c)) {k : Nat} (inside : k < b.length) :
      f.getD (a.length + k) 0 = b.getD k 0 := by
    rw [List.getD_eq_getElem?_getD, List.getD_eq_getElem?_getD, parts, getElem?_middle c inside]
  have front : ([0xD0] ++ row1 : List Byte).length = 41 := by simp [forty]
  have middle : ([0xD0] ++ row1 ++ row2 : List Byte).length = 81 := by simp [forty, forty']
  have back : ([0xD0] ++ row1 ++ row2 ++ markBytes marks1 : List Byte).length = 86 := by
    simp [forty, forty', markBytes_length]
  have whole : ([0xD0] ++ row1 ++ row2 ++ markBytes marks1 ++ markBytes marks2 : List Byte).length =
      91 := by
    simp [forty, forty', markBytes_length]
  refine ⟨?_, by rw [parts]; rfl, fun j inside => ?_, ?_, fun q inside => ?_, fun q inside => ?_, ?_⟩
  · simp [parts, forty, forty', markBytes_length]
  · rw [parts]
    exact getElem?_middle (a := [0xD0]) _ (by rw [forty]; exact inside)
  · rw [parts, ← List.append_assoc, List.drop_left' front, List.take_left' forty']
  · rw [← middle]
    exact get (c := markBytes marks2 ++ [lamps]) (by simp [parts]) inside
  · rw [← back]
    exact get (c := [lamps]) (by simp [parts]) inside
  · have last := get (a := [0xD0] ++ row1 ++ row2 ++ markBytes marks1 ++ markBytes marks2)
      (b := [lamps]) (c := []) (k := 0) (by simp [parts]) (by simp)
    rw [whole] at last
    exact last

theorem frame_parts (s : State) : FrameParts s.frame (s.line.row1 s.display.origin s.display.phaseOn)
    (fill40 s.row2.1) (s.line.marks1 s.display.origin) (marks2 s.row2.2) s.lamps := by
  refine frameParts_of ?_ (row1_length ..) (fill40_length _)
  unfold State.frame
  simp only [List.append_assoc]
  rfl

/-- The mark of a column, in the byte and bit R185 gives it. -/
theorem markBit_get {f : List Byte} {base : Nat} {marks : List Bool} (forty : marks.length = 40)
    (bytes : ∀ q, q < 5 → f.getD (base + q) 0 = (markBytes marks).getD q 0) {j : Nat} (inside : j < 40) :
    some ((f.getD (base + j / 8) 0).getLsbD (7 - j % 8)) = marks[j]? := by
  rw [bytes _ (by omega), markBytes_get forty inside]

theorem row1_get (l : Line) (w : Nat) (on : Bool) {j : Nat} (inside : j < 40) :
    (l.row1 w on)[j]? = some (if on = true ∧ w + j = l.cursor then 0x1F else l.shown (w + j)) := by
  simp [Line.row1, inside]
theorem shown_eq (l : Line) (p : Nat) : l.shown p = match l.cells[p]? with
    | some c => (match c.kind with
      | .glyph => c.overCode.getD (c.code.getD 0x20)
      | .space => 0x20 | .tab => 0x1A | .gap => 0x1B)
    | none => if p = l.cells.length ∧ l.state = .returned then 0x1C else 0x20 := by
  unfold Line.shown
  cases l.cells[p]? with
  | none => simp
  | some c => cases kind : c.kind <;> cases shownOver : c.overCode <;> simp [kind, shownOver]
theorem marked_eq (l : Line) (p : Nat) : l.marked p = match l.cells[p]? with
    | some c => decide (c.state = .pending ∧ c.overCode = none ∧ c.kind ≠ .gap)
    | none => false := by
  unfold Line.marked
  cases l.cells[p]? with
  | none => rfl
  | some c => cases shownOver : c.overCode <;> simp [shownOver]

theorem marks1_get (l : Line) (w : Nat) {j : Nat} (inside : j < 40) :
    (l.marks1 w)[j]? = some (l.marked (w + j)) := by
  simp [Line.marks1, inside]
theorem marks2_get (n : Nat) {j : Nat} (inside : j < 40) :
    (marks2 n)[j]? = some (decide (2 ≤ j ∧ j < 2 + n)) := by
  simp [marks2, inside]

/-- A run is blocked only in HOLD outside DIRECT typing (R153, R154). -/
theorem blocked_holds (blocked : s.runStatus = .blocked) :
    s.settings.spell = .hold ∧ s.settings.mode ≠ .direct := by
  have kept : s.keptBack s.line.firstPending = true := by
    by_contra free
    unfold State.runStatus at blocked
    cases run : s.line.run with
    | none => simp [run] at blocked
    | some r =>
      cases cell : s.line.cells[s.line.firstPending]? with
      | none =>
        simp only [run, cell] at blocked
        split_ifs at blocked
      | some c =>
        simp only [run, cell, if_neg free] at blocked
        split_ifs at blocked
  have hold : s.effMode = .hold := by
    unfold State.keptBack at kept
    split at kept
    · cases kept
    · simp only [Bool.and_eq_true, decide_eq_true_eq] at kept
      exact kept.1.1
  unfold State.effMode at hold
  cases spell : s.settings.spell <;> cases mode : s.settings.mode <;> simp_all

theorem decimal_reads {n : Nat} (fits : n < 10 ^ 19) :
    (decimal n).foldl (fun v b => 10 * v + (b.toNat - 0x30)) 0 = n ∧
      (∀ b ∈ decimal n, 0x30 ≤ b.toNat ∧ b.toNat ≤ 0x39) ∧
      (10 ≤ n → (decimal n).head? ≠ some 0x30) ∧ (n < 10 → (decimal n).length = 1) := by
  obtain ⟨value, digits, head⟩ := digitsFuel_decimal 20 (n := n) (fits.trans (by norm_num))
  refine ⟨value, digits, fun two => head (by omega), fun one => ?_⟩
  unfold decimal digitsFuel
  rw [if_pos one]
  rfl

/-- The bytes of a frame, part by part. -/
theorem frame_shows (s : State) :
    let f := s.frame
    let w := s.display.origin
    let bit' (b j : Nat) := (f.getD (b + j / 8) 0).getLsbD (7 - j % 8)
    f.length = 92 ∧ f[0]? = some 0xD0 ∧
      (f.drop 41).take 40 = (s.rowText ++ List.replicate 40 0x20).take 40 ∧
      (∀ j, j < 40 →
        f[1 + j]? = some (if s.display.phaseOn = true ∧ w + j = s.line.cursor then 0x1F
          else s.line.shown (w + j)) ∧
        bit' 81 j = s.line.marked (w + j) ∧
        bit' 86 j = (match s.heldShown with
          | some r => decide (2 ≤ j ∧ j < 2 + (s.typedCodes r).length)
          | none => false)) ∧
      (List.range 8).map (bit' 91) = [decide (s.pitch = .ps), s.text.bold, s.text.underline,
        decide (s.settings.mode = .word), decide (s.settings.mode = .line),
        decide (s.settings.spell ≠ .off), decide (s.runStatus = .blocked),
        decide (s.seq.mech = .fault)] := by
  obtain ⟨length, command, first, second, firstMarks, secondMarks, lamps⟩ := frame_parts s
  intro f w bit'
  refine ⟨length, command, ?_, fun j inside => ⟨?_, ?_, ?_⟩, ?_⟩
  · rw [row2_eq] at second
    exact second
  · exact (first j inside).trans (row1_get _ _ _ inside)
  · have mark := markBit_get (marks1_length _ _) firstMarks inside
    exact Option.some.inj (mark.trans (marks1_get _ _ inside))
  · have mark := markBit_get (marks2_length _) secondMarks inside
    refine Option.some.inj (mark.trans ((marks2_get _ inside).trans (congrArg some ?_)))
    rw [row2_eq]
    cases s.heldShown with
    | some r => rfl
    | none => exact decide_eq_false (by simp only; omega)
  · have bits : (List.range 8).map (bit' 91) =
        (List.range 8).map fun j => s.lamps.getLsbD (7 - j) := by
      refine List.map_congr_left fun j member => ?_
      have inside : j < 8 := List.mem_range.mp member
      change (f.getD (91 + j / 8) 0).getLsbD (7 - j % 8) = _
      rw [Nat.div_eq_of_lt inside, Nat.mod_eq_of_lt inside, lamps]
    rw [bits]
    exact markByte_bits ..

/-- Settles O49: the renders by `render_shows`, the bytes by the frame's parts. -/
theorem rendersKeepTheWindow : Obligations.RendersKeepTheWindow := by
  intro s
  refine ⟨?_, fun x v => rfl, fun old told => renderIf_shows told, fun live => ?_, fun live timer => ?_,
    fun live sending => ?_, ?_, blocked_holds, fun r i index => ?_, fun n fits => decimal_reads fits⟩
  · intro t c w
    obtain ⟨window, next, line, _⟩ := render_shows s
    refine ⟨?_, window, next, line⟩
    obtain ⟨_, _, _, rendered⟩ := render_eq s
    change s.render.display.origin = _
    rw [rendered]
    change windowOrigin w c = _
    unfold windowOrigin
    rw [Nat.zero_max]
  · have run : exec .blinkToggle s = .next ({ s with display := { s.display with
        phaseOn := !s.display.phaseOn, blinkTimer := Config.blinkPeriod } } : State).render := by
      change Host.Outcome.next (if s.live = true then _ else s) = _
      rw [if_pos live]
    obtain ⟨_, next, _, phase, blink, _, _, work, mechanism, settings⟩ := render_shows { s with
      display := { s.display with
        phaseOn := !s.display.phaseOn, blinkTimer := Config.blinkPeriod } }
    exact ⟨_, run, phase, blink, next, work, mechanism, settings⟩
  · have run : exec .messageExpiry s = .next ({ s with display := { s.display with
        slot := none, slotTimer := none } } : State).render := by
      change Host.Outcome.next (if (s.live && s.display.slotTimer.isSome) = true then _ else s) = _
      rw [live, timer]
      rfl
    obtain ⟨_, next, _, _, _, slot, empties, work, mechanism, settings⟩ := render_shows { s with
      display := { s.display with slot := none, slotTimer := none } }
    exact ⟨_, run, slot, empties, next, work, mechanism, settings⟩
  · change Host.Outcome.next (if (s.live && s.display.sending) = true then _ else s) = _
    rw [live, sending]
    rfl
  · intro f w signed' held text bit'
    obtain ⟨length, command, second, columns, lamps⟩ := frame_shows s
    refine ⟨length, command, second, fun j inside => ?_, lamps⟩
    obtain ⟨first, mark, word⟩ := columns j inside
    rw [shown_eq] at first
    rw [marked_eq] at mark
    exact ⟨first, mark, word⟩
  · simp only [State.typedCodes, index]
    rfl

end Sys2Proof.Machine
end
